-- ==== Sys2Proof/Word.lean ====
section
/-! DEFINITION. The plain value types of the RF OOK symbol encoder (spec 00 R6, R7; 30 R50, R54). -/

namespace Sys2Proof

/-- A symbol is any 8-bit value held in a codeword entry (R9, R50). -/
abbrev Symbol := BitVec 8

/-- One level of a waveform: `true` = HIGH, `false` = LOW (R6, R9). -/
abbrev Level := Bool

/-- A codeword: an ordered sequence of symbols, 16 of them in a legal one (R21, R52).
It is a list so that the length checks of R70 and R80 can be stated. -/
abbrev Codeword := List Symbol

/-- A waveform: an ordered sequence of levels, 128 of them in the hardware (R21, R54, R91). -/
abbrev Waveform := List Level

/-- The 16-bit request word (R56). -/
abbrev RequestWord := BitVec 16

/-- A 128-bit bus: `req_opd` and `rsp_data` (R36, R55). -/
abbrev Bus := BitVec 128

/-- The 3-bit error code port `rsp_err` (R55, R115). -/
abbrev ErrCode := BitVec 3

end Sys2Proof
end

