-- ==== Sys2Proof/Config.lean ====
section
/-! DEFINITION. What is fixed for the machine (spec 00 R5; 10 R14), the records its surroundings hand it
(70 R140; 30 R55), and the free values: opaque constants without a body, so that no proof can see what
they are (93 U5, U6, U12, U13, U15, U17, U18, U20). -/

namespace Sys2Proof

/-- The startup configuration record `CFG0` (R140). The pin identifier is opaque to the block (R12, D22):
its number stands for whatever the platform calls the pin. -/
structure StartupRecord where
  key : List Bool
  pin : Option Nat
  defdev : Option Nat
  pw : Option Nat
  rc : Option Nat
  deriving DecidableEq, Repr, Inhabited

/-- The input ports of R55 (all but `clk`, whose cycles no rule counts) and the record handed over at the
release of reset (R140), as the surroundings hold them at one moment. -/
structure Pins where
  rst : Bool
  reqValid : Bool
  reqWord : RequestWord
  reqOpd : Bus
  /-- Sampled by a `SetLevel`: `true` is the answer `IOError` (R31, D14). -/
  lineFault : Bool
  cfg0 : StartupRecord
  deriving DecidableEq, Repr, Inhabited

namespace Config

/-- `SHORT`, 0b10001110 (R5, R14). -/
def short : Symbol := 0b10001110#8

/-- `LONG`, 0b10001000 (R5, R14). -/
def long : Symbol := 0b10001000#8

/-- `TRAILER`, codeword indices 12 to 15 (R5, R14). -/
def trailer : List Symbol := [0b10000000#8, 0#8, 0#8, 0#8]

/-- `KEY_LEN` (R5). -/
def keyLen : Nat := 5

/-- `DEV_LEN` (R5). -/
def devLen : Nat := 5

/-- `CW_LEN` (R5). -/
def cwLen : Nat := 16

/-- `SYM_BITS` (R5). -/
def symBits : Nat := 8

/-- `WF_LEN` = `CW_LEN` * `SYM_BITS` (R5). -/
def wfLen : Nat := 128

/-- `PW_DEFAULT`, in microseconds (R5, R141). -/
def pwDefault : Nat := 300

/-- `RC_DEFAULT` (R5, R141). -/
def rcDefault : Nat := 10

/-- `PW_TOL`, the tolerated error of one hold: the model takes 0 (R5, U8). -/
def pwTol : Nat := 0

/-- The smallest record that passes validation (R142), with no `pw` and no `rc`. Used by `withFetchWord`
alone, to stand for the load of a configuration (notes/assumptions/9.md). -/
def benchRecord : StartupRecord :=
  { key := [false, false, false, false, false], pin := some 0, defdev := some 0, pw := none, rc := none }

/-- Free value: a level of the line that the spec leaves open (U5, U6). -/
opaque freeLevel : Nat → Level

/-- Free value: the contents of a 128-bit bus or register that the spec leaves open (U18, R27). -/
opaque freeBus : Nat → Bus

/-- Free value: five key entries that the spec leaves open (U17, R27). -/
opaque freeKey : Nat → BitVec 5

/-- Free value: a number in a register that the spec leaves open (U17, R27). -/
opaque freeCount : Nat → Nat

/-- Free value: the error code on `rsp_err` before the first response (R27). -/
opaque freeErr : Nat → ErrCode

/-- Free value: a duration in microseconds that the spec leaves open (U12, U13, R156). -/
opaque freeDelay : Nat → Nat

/-- Open parameter `CFG_TRANSPORT` (D10, U20): the record that stands at the block when reset is released. -/
opaque startupRecord : StartupRecord

/-- Open input: what the surroundings present after the first step, step by step (R26, R32, R148). -/
opaque surroundings : List Pins

end Config

end Sys2Proof
end

