-- ==== Sys2Proof/Syntax.lean ====
section
/-! DEFINITION. The four operations that take the place of instructions (spec 00 R1; 30 R56, R62). -/

namespace Sys2Proof

/-- The document's `Command`, an "enumeration {ON, OFF}" (R57). -/
inductive Command where
  | off
  | on
  deriving DecidableEq, Repr

/-- The command token of ISSUE (R57): the strings "off" and "on", or one of the unrecognised tokens,
kept with its number. -/
inductive Token where
  | off
  | on
  | unrecognised (code : Nat)
  deriving DecidableEq, Repr

/-- The operations, with the operands of the document's calls (R70, R80, R90, R105). The operands are as
wide as the abstract calls allow (a key or a codeword of any length, a device of any size);
`Instr.WellFormed` says which of them a request word can carry (R59, R60, R66). -/
inductive Instr where
  /-- `encode(key, device, command)`, R70. -/
  | encode (key : List Bool) (device : Nat) (command : Command)
  /-- `expand(codeword)`, R80. -/
  | expand (codeword : Codeword)
  /-- `transmit(waveform)` with `CFG.PW` and `CFG.RC`, R90, R92. -/
  | transmit (waveform : Waveform)
  /-- `issue(deviceId, command)`, R105. -/
  | issue (token : Token) (device : Nat)
  deriving DecidableEq, Repr

/-- The operation field of a request (R56, R62). -/
inductive Op where
  | encode
  | expand
  | transmit
  | issue
  deriving DecidableEq, Repr

/-- The row of the operation map (R62) an instruction belongs to. -/
def Instr.op : Instr → Op
  | .encode _ _ _ => .encode
  | .expand _ => .expand
  | .transmit _ => .transmit
  | .issue _ _ => .issue

/-- What travels on the request port: the request word and the long operand (R55, R56). -/
structure Request where
  word : RequestWord
  opd : Bus
  deriving DecidableEq, Repr

end Sys2Proof
end

