-- ==== Sys2Proof/Machine/Operands.lean ====
section
/-! DEFINITION. Operand forms: how key, device, token, codeword and waveform travel in a request word and on
the 128-bit buses (spec 20 R33 to R36; 30 R56 to R61). -/

namespace Sys2Proof.Machine

/-- The number whose bit i is entry i of the list. -/
def bitsToNat : List Bool → Nat
  | [] => 0
  | b :: bs => b.toNat + 2 * bitsToNat bs

/-- R60: key entry i is bit i of the 5-bit key field. -/
def keyEntries (field : BitVec 5) : List Bool :=
  [field.getLsbD 0, field.getLsbD 1, field.getLsbD 2, field.getLsbD 3, field.getLsbD 4]

/-- R59: bit i of the device operand, tested by itself as `(device div 2^i) mod 2`. -/
def deviceBit (device i : Nat) : Bool := decide (device / 2 ^ i % 2 = 1)

/-- R35, R59: the five significant device bits, bit 0 first; bits 5 and above are ignored. -/
def deviceBits (device : Nat) : List Bool :=
  [deviceBit device 0, deviceBit device 1, deviceBit device 2, deviceBit device 3, deviceBit device 4]

/-- R61: `cmd` = 1 is ON, `cmd` = 0 is OFF. -/
def commandOfBit : Bool → Command
  | true => .on
  | false => .off

/-- R57, the other way. -/
def commandBit : Command → Bool
  | .on => true
  | .off => false

/-- R57: `tok` = 0 is "off", `tok` = 1 is "on", every other value is unrecognised. -/
def tokenOfCode (code : Nat) : Token :=
  if code = 0 then .off else if code = 1 then .on else .unrecognised code

/-- R57, the other way. -/
def tokenCode : Token → Nat
  | .off => 0
  | .on => 1
  | .unrecognised code => code

/-- R61, R107: the command a token stands for; an unrecognised token gives none. -/
def tokenCommand : Token → Option Command
  | .off => some .off
  | .on => some .on
  | .unrecognised _ => none

/-- R33: the eight levels of a symbol in the order of time, bit 7 first. -/
def symbolLevels (s : Symbol) : List Level :=
  [s.getLsbD 7, s.getLsbD 6, s.getLsbD 5, s.getLsbD 4, s.getLsbD 3, s.getLsbD 2, s.getLsbD 1, s.getLsbD 0]

/-- R36: symbol s of a packed codeword is bits 127 - 8s down to 120 - 8s. -/
def packedSymbol (p : Bus) (s : Nat) : Symbol := p.extractLsb' (120 - 8 * s) 8

/-- R36: the 16 symbols of a packed codeword, symbol 0 first. -/
def unpackCodeword (p : Bus) : Codeword := (List.range Config.cwLen).map (packedSymbol p)

/-- R36, the other way: symbol 0 is the most significant byte. -/
def packCodeword (cw : Codeword) : Bus :=
  BitVec.ofNat 128 (cw.foldl (fun acc s => 256 * acc + s.toNat) 0)

/-- R36: the 128 levels of a packed waveform, entry n at bit 127 - n. -/
def unpackWaveform (q : Bus) : Waveform := (List.range Config.wfLen).map fun n => q.getLsbD (127 - n)

/-- R36, the other way: entry 0 is the most significant bit. -/
def packWaveform (w : Waveform) : Bus :=
  BitVec.ofNat 128 (w.foldl (fun acc b => 2 * acc + b.toNat) 0)

end Sys2Proof.Machine
end

