-- ==== Sys2Proof/WellFormed.lean ====
section
/-! DEFINITION. Which operations a request can carry (spec 20 R37; 30 R56, R57, R59, R60). -/

namespace Sys2Proof

/-- R57: the unrecognised tokens are the 62 values 2 to 63; 0 and 1 are "off" and "on". -/
def Token.wellFormed : Token → Bool
  | .off => true
  | .on => true
  | .unrecognised code => decide (2 ≤ code ∧ code < 64)

/-- R60: the key field of a request word has exactly 5 entries. -/
def keyFits (key : List Bool) : Bool := decide (key.length = Config.keyLen)

/-- R59, `DEV_BITS` = 8: the device field of a request word holds 0 to 255. -/
def deviceFits (device : Nat) : Bool := decide (device < 256)

/-- R37: the codeword bus carries exactly 16 symbols. -/
def codewordFits (codeword : Codeword) : Bool := decide (codeword.length = Config.cwLen)

/-- R37, R91: the waveform bus carries exactly 128 levels. -/
def waveformFits (waveform : Waveform) : Bool := decide (waveform.length = Config.wfLen)

/-- An operation that a request word and the operand bus can express. -/
def Instr.wellFormed : Instr → Bool
  | .encode key device _ => keyFits key && deviceFits device
  | .expand codeword => codewordFits codeword
  | .transmit waveform => waveformFits waveform
  | .issue token device => token.wellFormed && deviceFits device

/-- The check as a proposition. -/
abbrev Instr.WellFormed (i : Instr) : Prop := i.wellFormed = true

end Sys2Proof
end

