-- ==== Sys2Proof/Decode.lean ====
section
/-! DEFINITION. Decoding a request (spec 30 R56 to R62, R65) and, after it, encoding one. The request word is one
16-bit value presented whole, it has no byte order (R36). -/

namespace Sys2Proof

open Machine

/-- R62: every row's mask is 0xC000. -/
def opMask : RequestWord := 0xC000#16

/-- R62: the `match` column of the operation map. -/
def opMatch : Op → RequestWord
  | .encode => 0x0000#16
  | .expand => 0x4000#16
  | .transmit => 0x8000#16
  | .issue => 0xC000#16

/-- R62: a word selects the row whose `match` equals the word masked. -/
def wordOp (word : RequestWord) : Op :=
  if word &&& opMask = opMatch .encode then .encode
  else if word &&& opMask = opMatch .expand then .expand
  else if word &&& opMask = opMatch .transmit then .transmit
  else .issue

/-- The field [7:0] as an unsigned number (R59). -/
def devField (word : RequestWord) : Nat := (word.extractLsb' 0 8).toNat

/-- The field [12:8] of ENCODE (R60). -/
def keyBits (word : RequestWord) : BitVec 5 := word.extractLsb' 8 5

/-- The bit [13] of ENCODE (R57). -/
def cmdBit (word : RequestWord) : Bool := word.getLsbD 13

/-- The field [13:8] of ISSUE (R56). -/
def tokField (word : RequestWord) : Nat := (word.extractLsb' 8 6).toNat

/-- R56: every 16-bit value decodes to exactly one operation. Bits marked `-` and the long operand of ENCODE and
ISSUE are not examined (R64). -/
def decodeRequest (word : RequestWord) (opd : Bus) : Instr :=
  match wordOp word with
  | .encode => .encode (keyEntries (keyBits word)) (devField word) (commandOfBit (cmdBit word))
  | .expand => .expand (unpackCodeword opd)
  | .transmit => .transmit (unpackWaveform opd)
  | .issue => .issue (tokenOfCode (tokField word)) (devField word)

/-- Why a run of bits is no request (R65: one request length, 16 bits and the 128-bit operand bus). -/
inductive DecodeError where
  /-- Fewer bits than a request word. -/
  | wordCutShort
  /-- More bits than a request word and its long operand. -/
  | longerThanARequest
  deriving DecidableEq, Repr

/-- A run of bits as a request: the word is bits 15 to 0, the long operand the 128 bits after it; bits above
`nbits` are 0. -/
def requestOfBits (nbits bits : Nat) : Request :=
  { word := BitVec.ofNat 16 (bits % 2 ^ nbits), opd := BitVec.ofNat 128 (bits % 2 ^ nbits / 2 ^ 16) }

/-- Decoding any run of bits, rejecting by name one that is not as long as a request. -/
def decode (nbits bits : Nat) : Except DecodeError Instr :=
  if nbits < 16 then .error .wordCutShort
  else if 144 < nbits then .error .longerThanARequest
  else .ok (decodeRequest (requestOfBits nbits bits).word (requestOfBits nbits bits).opd)

/-- The decoder on a word numbered as spec/opcode_table.json numbers its bits. -/
def decodeTableWord (nbits w : Nat) : Option Instr :=
  match decode nbits w with
  | .ok i => some i
  | .error _ => none

/-- The request word of an operation (R56); ignored bits are 0, as a host should drive them (R64). -/
def encodeWord : Instr → RequestWord
  | .encode key device command =>
    BitVec.ofNat 16 (2 ^ 13 * (commandBit command).toNat + 2 ^ 8 * (bitsToNat key % 2 ^ 5) + device % 2 ^ 8)
  | .expand _ => 0x4000#16
  | .transmit _ => 0x8000#16
  | .issue token device => BitVec.ofNat 16 (2 ^ 15 + 2 ^ 14 + 2 ^ 8 * (tokenCode token % 2 ^ 6) + device % 2 ^ 8)

/-- The long operand of an operation (R56). -/
def encodeOpd : Instr → Bus
  | .encode _ _ _ => 0#128
  | .expand codeword => packCodeword codeword
  | .transmit waveform => packWaveform waveform
  | .issue _ _ => 0#128

/-- The encoder: what a host presents for an operation (R56). -/
def encodeRequest (i : Instr) : Request := { word := encodeWord i, opd := encodeOpd i }

end Sys2Proof
end

