-- ==== Sys2Proof/Machine/State.lean ====
section
/-! DEFINITION. The whole state of the block (spec 10 R10 to R28), its ports (30 R55) and what the model adds to
them: the control point, the event trace of R8, the surroundings' coming moves and the counter of free values. -/

namespace Sys2Proof.Machine

/-- Which check raised `InvalidConfiguration` (R115, "the model's `raise` names which check failed"). -/
inductive ConfigCheck where
  | startup
  | keyLength
  deriving DecidableEq, Repr

/-- Which access failed (R94): the idle guard, or the level at repetition r and index i. -/
inductive FailPoint where
  | guard
  | level (r i : Nat)
  deriving DecidableEq, Repr

/-- The four named errors with what the model records of each (R115). -/
inductive Error where
  | invalidConfiguration (check : ConfigCheck)
  | invalidCodeword (length : Nat)
  | transmissionFailed (at_ : FailPoint)
  | invalidCommand (token : Token)
  deriving DecidableEq, Repr

/-- The response to an accepted request (R58): success, with a result for ENCODE and EXPAND only, or one error. -/
inductive Response where
  | ok (data : Option Bus)
  | error (e : Error)
  deriving DecidableEq, Repr

/-- One event on the output line (R8). -/
inductive Event where
  /-- A `SetLevel(b)` that succeeded. -/
  | set (b : Level)
  /-- A `SetLevel(b)` that answered `IOError`. -/
  | setFail (b : Level)
  /-- `d` time units pass with the line unchanged. -/
  | hold (d : Nat)
  deriving DecidableEq, Repr

/-- The control point of the block: where it stands in the pseudocode of the operation it runs. The durations
are time units still to pass, each drawn freely (U12, U13). -/
inductive Phase where
  /-- In reset, or reset just released and startup not yet run (R140, R141). -/
  | reset
  /-- Waiting for a request (R137). -/
  | idle
  /-- The accepted request has its response `r`, given when `left` more time units have passed (R55, R156). -/
  | respond (left : Nat) (r : Response)
  /-- The idle guard takes effect when `left` more time units have passed (R95). -/
  | guard (left : Nat)
  /-- The `SetLevel` for level (`TX.R`, `TX.I`) is being made and takes effect when `left` more time units have passed:
  the time an access itself takes (R101, R156), and before the first level also the gap after the guard (R95). -/
  | level (left : Nat)
  /-- The level at (`TX.R`, `TX.I`) is being held; `TX.H` time units are left (R132). -/
  | hold
  deriving DecidableEq, Repr

/-- The state. Names follow R10: `cfg*` is `CFG.*`, `tx*` is `TX.*`. -/
structure State where
  /-- `CFG.KEY`, the dip-switch key (R11). -/
  cfgKey : List Bool
  /-- `CFG.PIN`, the opaque pin identifier (R12). -/
  cfgPin : Nat
  /-- `CFG.DEFDEV`, the default device id (R13). -/
  cfgDefdev : Nat
  /-- `CFG.PW`, pulseWidth in microseconds (R15). -/
  cfgPw : Nat
  /-- `CFG.RC`, repeatCount (R16). -/
  cfgRc : Nat
  /-- `STATUS.FATAL` (R18), also the pin `fatal`. -/
  fatal : Bool
  /-- `STATUS.BUSY` (R17), also the pin `busy`. -/
  busy : Bool
  /-- `TX.WF`, the waveform being emitted (R23). -/
  txWf : Waveform
  /-- `TX.R`, the repetition index (R22). -/
  txR : Nat
  /-- `TX.I`, the level index (R22). -/
  txI : Nat
  /-- `TX.H`, the time units left of the current hold (R23). -/
  txH : Nat
  /-- `LINE`, the level of the output line (R25). -/
  line : Level
  /-- The control point (model's own; the `BUSY` flag and "an accepted request still awaits its response" of R55). -/
  phase : Phase
  /-- The output port `rsp_valid` (R55), true after the step that gives a response. -/
  rspValid : Bool
  /-- The output port `rsp_err` (R55). -/
  rspErr : ErrCode
  /-- The output port `rsp_data` (R55). -/
  rspData : Bus
  /-- The output port `line_out` (R55), the level asked by the latest `SetLevel`. -/
  lineOut : Level
  /-- The output port `line_set` (R55), true after a step that makes a `SetLevel`. -/
  lineSet : Bool
  /-- The input ports, as the surroundings hold them now (R26, R55). -/
  pins : Pins
  /-- What the surroundings present after each coming step; when the list is used up the pins stay as they are
  (model's own; R26, R32, R148). -/
  inbox : List Pins
  /-- The event trace of the latest accepted request, oldest event first (model's own; R8). -/
  trace : List Event
  /-- How many free values have been drawn (model's own). -/
  draws : Nat
  deriving DecidableEq, Repr

/-- Why the machine stops with a fault. -/
inductive Fault where
  /-- Raised by the transmitter when `TX.I` names no entry of `TX.WF`. No run reaches it (R22: the position stays
  inside the waveform); safe, a stop where the spec describes no such state. -/
  | noSuchLevel
  /-- Raised by EXPAND on a codeword of this length, which is not 16: the assertion failure of R117, kept as a fault
  with the offending length (U10, R115). No request can raise it, since the codeword bus carries 16 symbols (R37);
  safe, the spec's own treatment of a case the hardware cannot meet. -/
  | invalidCodeword (length : Nat)
  deriving DecidableEq, Repr

/-- Why the model gives a request no meaning. -/
inductive Refusal where
  /-- An instruction that has no meaning yet. Safe; no arm raises it in this model. -/
  | notModelled (mnemonic : String)
  /-- Raised by TRANSMIT and ISSUE at the transmit step when `CFG.RC` = 0: "outside the contract" (R16, U3). Safe. -/
  | repeatCountZero
  /-- Raised by TRANSMIT and ISSUE at the transmit step when `CFG.PW` = 0: "outside the contract" (R15, U4). Safe. -/
  | pulseWidthZero
  deriving DecidableEq, Repr

/-- The pins at the release of reset: no request, and an unknown line answer and startup record
(notes/assumptions/8.md). -/
def resetPins : Pins :=
  { rst := false, reqValid := false, reqWord := 0#16, reqOpd := 0#128,
    lineFault := Config.freeLevel 2, cfg0 := Config.startupRecord }

/-- The machine right after reset, startup not yet run (R27, R140): the two flags are 0, nothing is accepted and
nothing is answered; what the spec calls unspecified is a free value (notes/assumptions/1.md). -/
def State.reset : State :=
  { cfgKey := keyEntries (Config.freeKey 0)
    cfgPin := Config.freeCount 0
    cfgDefdev := Config.freeCount 1
    cfgPw := Config.freeCount 2
    cfgRc := Config.freeCount 3
    fatal := false
    busy := false
    txWf := unpackWaveform (Config.freeBus 0)
    txR := Config.freeCount 4
    txI := Config.freeCount 5
    txH := Config.freeCount 6
    line := Config.freeLevel 0
    phase := .reset
    rspValid := false
    rspErr := Config.freeErr 0
    rspData := Config.freeBus 1
    lineOut := Config.freeLevel 1
    lineSet := false
    pins := resetPins
    inbox := Config.surroundings
    trace := []
    draws := 7 }

end Sys2Proof.Machine
end

