-- ==== Sys2Proof/Machine/Flags.lean ====
section
/-! DEFINITION. The status outputs. The block has no condition codes and no arithmetic flags (spec 10 R20), so what
stands here is `req_ready` (30 R55), the three conditions of the block (60 R131) and the error codes (60 R115). -/

namespace Sys2Proof.Machine

/-- `req_ready` (R55): 1 exactly when not in reset, startup is done, `STATUS.BUSY` = 0 and no accepted request
still awaits its response. -/
def State.reqReady (s : State) : Bool := !s.pins.rst && !s.busy && decide (s.phase = .idle)

/-- The conditions of the whole block (R131). -/
inductive Condition where
  | inReset
  | ready
  | fatal
  deriving DecidableEq, Repr

/-- Which condition the block is in (R131); between the release of reset and startup the model
counts it as still in reset (DESIGN CHOICE, notes/assumptions/18.md). -/
def State.condition (s : State) : Condition :=
  if s.pins.rst || decide (s.phase = .reset) then .inReset else if s.fatal then .fatal else .ready

/-- The number of an error on `rsp_err` (R115, D9). -/
def errorCode : Error → ErrCode
  | .invalidConfiguration _ => 1#3
  | .invalidCodeword _ => 2#3
  | .transmissionFailed _ => 3#3
  | .invalidCommand _ => 4#3

/-- `rsp_err` of a response; 0 is success (R58, R115). -/
def responseCode : Response → ErrCode
  | .ok _ => 0#3
  | .error e => errorCode e

/-- The result a response carries on `rsp_data`, if any (R58). -/
def responseData : Response → Option Bus
  | .ok data => data
  | .error _ => none

end Sys2Proof.Machine
end

