-- ==== Sys2Proof/Machine/Ops.lean ====
section
/-! DEFINITION. The named operations over the state: reset and startup (spec 70 R140 to R142, R153), the line access
(20 R31), answering a request and raising an error (60 R125), and starting a train (42 R93). -/

namespace Sys2Proof.Machine

/-- The strobes `rsp_valid` and `line_set` last for the one step that raises them (R55, D14). -/
def State.clearStrobes (s : State) : State := { s with rspValid := false, lineSet := false }

/-- The surroundings' next move: the pins of the coming step; with none listed they stay (R26). -/
def State.takePins (s : State) : State := { s with pins := s.inbox.headD s.pins, inbox := s.inbox.tail }

/-- A hold that reset cuts short leaves the part of it that has passed in the trace (R8, R153). -/
def State.cutHold (s : State) : List Event :=
  match s.phase with
  | .hold => if s.txH < s.cfgPw then [.hold (s.cfgPw - s.txH)] else []
  | _ => []

/-- `rst` = 1 (R140, R153): the flags are 0, a train in progress ends at once with no response, `TX.*` and `CFG.*`
become unspecified (R27), and the line is not driven, so it stays at its level (R25, R153). -/
def State.assertReset (s : State) : State :=
  { s with
    cfgKey := keyEntries (Config.freeKey s.draws)
    cfgPin := Config.freeCount s.draws
    cfgDefdev := Config.freeCount (s.draws + 1)
    cfgPw := Config.freeCount (s.draws + 2)
    cfgRc := Config.freeCount (s.draws + 3)
    fatal := false
    busy := false
    txWf := unpackWaveform (Config.freeBus s.draws)
    txR := Config.freeCount (s.draws + 4)
    txI := Config.freeCount (s.draws + 5)
    txH := Config.freeCount (s.draws + 6)
    trace := s.trace ++ s.cutHold
    phase := .reset
    draws := s.draws + 7 }

/-- R142: the key has 5 entries, the pin is configured, the default device is configured; nothing else is checked. -/
def recordValid (c : StartupRecord) : Bool :=
  decide (c.key.length = Config.keyLen) && c.pin.isSome && c.defdev.isSome

/-- The two transmission parameters, loaded whether or not the record is valid (R141). -/
def State.loadTimings (s : State) (c : StartupRecord) : State :=
  { s with cfgPw := c.pw.getD Config.pwDefault, cfgRc := c.rc.getD Config.rcDefault }

/-- Startup (R141): load the record if it is valid, else latch `STATUS.FATAL` and leave the other configuration
registers unspecified (R128, U17). It makes no `SetLevel`. -/
def State.startup (s : State) (c : StartupRecord) : State :=
  if recordValid c then
    { s.loadTimings c with
      cfgKey := c.key
      cfgPin := c.pin.getD 0
      cfgDefdev := c.defdev.getD 0
      fatal := false
      phase := .idle }
  else
    { s.loadTimings c with
      cfgKey := keyEntries (Config.freeKey s.draws)
      cfgPin := Config.freeCount s.draws
      cfgDefdev := Config.freeCount (s.draws + 1)
      fatal := true
      phase := .idle
      draws := s.draws + 2 }

/-- The block turns to this control point; when it is the same one with one time unit less, that unit has passed. -/
def State.goTo (s : State) (p : Phase) : State := { s with phase := p }

/-- The operation in progress has its response; it is given after a free time (R58, R156). -/
def State.finish (s : State) (r : Response) : State :=
  { s with phase := .respond (Config.freeDelay s.draws) r, draws := s.draws + 1 }

/-- An accepted request that ends before any line access: an empty trace and one response (R45, R126). -/
def State.answer (s : State) (r : Response) : State := State.finish { s with trace := [] } r

/-- R125: raising an error ends the operation at that point with its one response; no state is saved, no mode
changes, no handler runs. The shared operation of every error response given before the transmit step. -/
def State.raise (s : State) (e : Error) : State := s.answer (.error e)

/-- An error of ENCODE or EXPAND, run by itself or as a stage of ISSUE, ends the operation (R70, R80, R105):
`InvalidCodeword` is an assertion failure and stops the model with a fault (R117, U10), any other error is raised. -/
def State.stageError (s : State) (e : Error) : Host.Outcome State Fault Refusal :=
  match e with
  | .invalidCodeword length => .fault (.invalidCodeword length)
  | .invalidConfiguration check => .next (s.raise (.invalidConfiguration check))
  | .transmissionFailed point => .next (s.raise (.transmissionFailed point))
  | .invalidCommand token => .next (s.raise (.invalidCommand token))

/-- The response is given (R55, R58): one pulse of `rsp_valid` with the code and the result; without a result
`rsp_data` is any value (U18). It ends `STATUS.BUSY` (R17, R98, R99) and the block waits for a request (R129). -/
def State.giveResponse (s : State) (r : Response) : State :=
  { s with
    rspValid := true
    rspErr := responseCode r
    rspData := (responseData r).getD (Config.freeBus s.draws)
    busy := false
    phase := .idle
    draws := s.draws + 1 }

/-- `SetLevel(b)` (R31): one pulse of `line_set`; on success the line is at b, on `IOError` it is at any level
(U5). The answer is the surroundings' (R32). -/
def State.setLevel (s : State) (b : Level) : State :=
  if s.pins.lineFault then
    { s with lineOut := b, lineSet := true, line := Config.freeLevel s.draws,
             trace := s.trace ++ [.setFail b], draws := s.draws + 1 }
  else
    { s with lineOut := b, lineSet := true, line := b, trace := s.trace ++ [.set b] }

/-- Start of a train (R93): `STATUS.BUSY`, the copy of the waveform, the position at the first level; the idle
guard comes next, after a free time (U13). -/
def State.beginTrain (s : State) (w : Waveform) : State :=
  { s with
    busy := true
    txWf := w
    txR := 0
    txI := 0
    trace := []
    phase := .guard (Config.freeDelay s.draws)
    draws := s.draws + 1 }

/-- The transmit step of TRANSMIT and ISSUE (R93, R106). A repeat count or a pulse width of 0 is outside the contract
and has no meaning (R15, R16, U3, U4). -/
def State.startTrain (s : State) (w : Waveform) : Host.Outcome State Fault Refusal :=
  if s.cfgRc = 0 then .refused .repeatCountZero
  else if s.cfgPw = 0 then .refused .pulseWidthZero
  else .next (s.beginTrain w)

end Sys2Proof.Machine
end

