-- ==== Sys2Proof/Machine/PulseExpander.lean ====
section
/-! DEFINITION. The Pulse Expander and EXPAND (spec 41 R80 to R85). -/

namespace Sys2Proof.Machine

/-- The loops of R80: every symbol in order, its bits from the most to the least significant. -/
def expandLevels (codeword : Codeword) : Waveform := codeword.flatMap symbolLevels

/-- The document's `expand(codeword)` (R80): a length other than 16 is `InvalidCodeword`; symbol values are not
checked (R83). -/
def expandCall (codeword : Codeword) : Except Error Waveform :=
  if codeword.length = Config.cwLen then .ok (expandLevels codeword)
  else .error (.invalidCodeword codeword.length)

/-- EXPAND (R80): `InvalidConfiguration` while `STATUS.FATAL` = 1 (R116), else the packed waveform, or the fault of
R117 for a codeword of another length. No register is written and the line is not touched. -/
def execExpand (codeword : Codeword) (s : State) : Host.Outcome State Fault Refusal :=
  if s.fatal then .next (s.raise (.invalidConfiguration .startup))
  else
    match expandCall codeword with
    | .error e => s.stageError e
    | .ok w => .next (s.answer (.ok (some (packWaveform w))))

end Sys2Proof.Machine
end

