-- ==== Sys2Proof/Machine/SymbolCodec.lean ====
section
/-! DEFINITION. The Symbol Codec and ENCODE (spec 40 R70 to R76). -/

namespace Sys2Proof.Machine

/-- `BASE` (R14, R53): indices 0 to 10 SHORT, 11 LONG, then the trailer. -/
def baseCodeword : Codeword := List.replicate 11 Config.short ++ [Config.long] ++ Config.trailer

/-- The overwrite loop of R70: for each true entry of the list, the codeword entry at that place becomes LONG. -/
def overwriteLong (at_ : Nat) : List Bool → Codeword → Codeword
  | [], cw => cw
  | b :: bs, cw => overwriteLong (at_ + 1) bs (if b then cw.set at_ Config.long else cw)

/-- The command pair (R52, R70): ON reverses entries 10 and 11, OFF leaves them. -/
def overwriteCommand (command : Command) (cw : Codeword) : Codeword :=
  match command with
  | .on => (cw.set 10 Config.long).set 11 Config.short
  | .off => cw

/-- The codeword of a key of five entries (R70). -/
def buildCodeword (key : List Bool) (device : Nat) (command : Command) : Codeword :=
  overwriteCommand command (overwriteLong 5 (deviceBits device) (overwriteLong 0 key baseCodeword))

/-- The document's `encode(key, device, command)` (R70): a key of another length is `InvalidConfiguration`. -/
def encodeCall (key : List Bool) (device : Nat) (command : Command) : Except Error Codeword :=
  if key.length = Config.keyLen then .ok (buildCodeword key device command)
  else .error (.invalidConfiguration .keyLength)

/-- ENCODE (R70): `InvalidConfiguration` while `STATUS.FATAL` = 1 (R116), else the packed codeword or the error of
the call. No register is written and the line is not touched. -/
def execEncode (key : List Bool) (device : Nat) (command : Command) (s : State) :
    Host.Outcome State Fault Refusal :=
  if s.fatal then .next (s.raise (.invalidConfiguration .startup))
  else
    match encodeCall key device command with
    | .error e => s.stageError e
    | .ok cw => .next (s.answer (.ok (some (packCodeword cw))))

end Sys2Proof.Machine
end

