-- ==== Sys2Proof/Machine/CommandTrigger.lean ====
section
/-! DEFINITION. The command trigger, ISSUE (spec 43 R105 to R112). -/

namespace Sys2Proof.Machine

/-- ENCODE then EXPAND with the configured key, as ISSUE runs them (R105, R106). -/
def issueWaveform (key : List Bool) (device : Nat) (command : Command) : Except Error Waveform :=
  match encodeCall key device command with
  | .error e => .error e
  | .ok cw => expandCall cw

/-- ISSUE (R105). The checks in the order of R123: `STATUS.FATAL`, the token, the key length, the codeword length;
then the start of a train (R93). -/
def execIssue (token : Token) (device : Nat) (s : State) : Host.Outcome State Fault Refusal :=
  if s.fatal then .next (s.raise (.invalidConfiguration .startup))
  else
    match tokenCommand token with
    | none => .next (s.raise (.invalidCommand token))
    | some command =>
      match issueWaveform s.cfgKey device command with
      | .error e => s.stageError e
      | .ok w => s.startTrain w

end Sys2Proof.Machine
end

