-- ==== Sys2Proof/Machine/Transmitter.lean ====
section
/-! DEFINITION. The Transmitter and TRANSMIT (spec 42 R90 to R103; 60 R132). The request starts the train; the
sequencer below makes it, one access or one time unit a step. -/

namespace Sys2Proof.Machine

/-- TRANSMIT (R90, R92): `InvalidConfiguration` while `STATUS.FATAL` = 1 (R116), else the start of a train of this
waveform with `CFG.PW` and `CFG.RC` (R93). The waveform is not inspected (R91). -/
def execTransmit (waveform : Waveform) (s : State) : Host.Outcome State Fault Refusal :=
  if s.fatal then .next (s.raise (.invalidConfiguration .startup))
  else s.startTrain waveform

/-- The transmitter turns at once (R96) to the `SetLevel` for the level at (`TX.R`, `TX.I`). The access itself takes a
free time, and so does the gap after the guard (R95, R101, R156, U12, U13; notes/assumptions/4.md). -/
def State.toLevel (s : State) : State :=
  { s with phase := .level (Config.freeDelay s.draws), draws := s.draws + 1 }

/-- The hold of the level just set begins, with `TX.H` = `CFG.PW` (R132). -/
def State.beginHold (s : State) : State := { s with txH := s.cfgPw, phase := .hold }

/-- One time unit of a hold passes and more are left (R132). -/
def State.countDown (s : State) : State := { s with txH := s.txH - 1 }

/-- The hold is over: `TX.H` is 0 and the whole hold stands in the trace (R8, R132). -/
def State.endHold (s : State) : State := { s with txH := 0, trace := s.trace ++ [.hold s.cfgPw] }

/-- The position becomes level i of repetition r (R22). -/
def State.moveTo (s : State) (r i : Nat) : State := { s with txR := r, txI := i }

/-- The idle guard (R95): one `SetLevel(false)` with no hold. If it fails the operation ends with
`TransmissionFailed` (R99). A waveform of no levels has nothing to emit (R94 with L = 0). -/
def State.guardAccess (s : State) : State :=
  if s.pins.lineFault then (s.setLevel false).finish (.error (.transmissionFailed .guard))
  else if s.txWf.length = 0 then (s.setLevel false).finish (.ok none)
  else (s.setLevel false).toLevel

/-- One level access (R94): on success the hold begins with `TX.H` = `CFG.PW` (R132), on failure the operation
ends with `TransmissionFailed` and no further access is made (R99). -/
def State.levelAccess (s : State) : Host.Outcome State Fault Refusal :=
  match s.txWf[s.txI]? with
  | none => .fault .noSuchLevel
  | some b =>
    if s.pins.lineFault then
      .next ((s.setLevel b).finish (.error (.transmissionFailed (.level s.txR s.txI))))
    else .next (s.setLevel b).beginHold

/-- The advance of the position after a hold (R22, R96): the next level, or the first level of the next
repetition, or the normal end (R98). -/
def State.advance (s : State) : State :=
  if s.txI + 1 < s.txWf.length then (s.moveTo s.txR (s.txI + 1)).toLevel
  else if s.txR + 1 < s.cfgRc then (s.moveTo (s.txR + 1) 0).toLevel
  else s.finish (.ok none)

/-- One time unit of a hold (R132): `TX.H` counts down to 0, and when it has, the hold is over. -/
def State.holdTick (s : State) : State :=
  if 1 < s.txH then s.countDown else s.endHold.advance

/-- The level accesses of `transmit` from access number n on (R94), with `fails k` the answer of the line to
access k: the events and, if an access failed, its number. -/
def emitLevels (pw : Nat) (fails : Nat → Bool) : Nat → List Level → List Event × Option Nat
  | _, [] => ([], none)
  | n, b :: bs =>
    if fails n then ([.setFail b], some n)
    else (.set b :: .hold pw :: (emitLevels pw fails (n + 1) bs).1, (emitLevels pw fails (n + 1) bs).2)

/-- The document's `transmit(waveform, pulseWidth, repeatCount, outputLine)` as one call (R94), for a waveform of any
length (R91): its trace and its response. A pulse width or a repeat count of 0 is outside the contract (U3, U4). -/
def transmitCall (w : Waveform) (pw rc : Nat) (fails : Nat → Bool) : Option (List Event × Response) :=
  if pw = 0 ∨ rc = 0 then none
  else if fails 0 then some ([.setFail false], .error (.transmissionFailed .guard))
  else
    match emitLevels pw fails 1 (List.replicate rc w).flatten with
    | (t, none) => some (.set false :: t, .ok none)
    | (t, some n) =>
      some (.set false :: t, .error (.transmissionFailed (.level ((n - 1) / w.length) ((n - 1) % w.length))))

end Sys2Proof.Machine
end

