-- ==== Sys2Proof/Machine/Dispatch.lean ====
section
/-! DEFINITION. One arm per operation of spec/opcode_table.json. -/

namespace Sys2Proof.Machine

/-- What the block does with an accepted request (R70, R80, R90, R105). -/
def exec (i : Instr) (s : State) : Host.Outcome State Fault Refusal :=
  match i with
  | .encode key device command => Sys2Proof.Machine.execEncode key device command s
  | .expand codeword => Sys2Proof.Machine.execExpand codeword s
  | .transmit waveform => Sys2Proof.Machine.execTransmit waveform s
  | .issue token device => Sys2Proof.Machine.execIssue token device s

end Sys2Proof.Machine
end

