-- ==== Sys2Proof/Machine/Sequencer.lean ====
section
/-! DEFINITION. What the block does in one step: reset, startup, waiting, accepting a request, one action of the
transmitter, or giving a response (spec 20 R42, R43, R46; 30 R55; 60 R124, R131). -/

namespace Sys2Proof.Machine

/-- A block with no operation in progress: a presented request is accepted if `req_ready` = 1, its word and operand
read at that moment and not again (R47, R55); otherwise the block stays as it is (R137). -/
def State.idleAct (s : State) : Host.Outcome State Fault Refusal :=
  if s.pins.reqValid && s.reqReady then exec (decodeRequest s.pins.reqWord s.pins.reqOpd) s else .next s

/-- What the block does at its control point when `rst` = 0. -/
def State.phaseAct (s : State) : Host.Outcome State Fault Refusal :=
  match s.phase with
  | .reset => .next (s.startup s.pins.cfg0)
  | .idle => s.idleAct
  | .respond (n + 1) r => .next (s.goTo (.respond n r))
  | .respond 0 r => .next (s.giveResponse r)
  | .guard (n + 1) => .next (s.goTo (.guard n))
  | .guard 0 => .next s.guardAccess
  | .level (n + 1) => .next (s.goTo (.level n))
  | .level 0 => s.levelAccess
  | .hold => .next s.holdTick

/-- One action of the block; reset wins over everything (R124, R140). -/
def State.act (s : State) : Host.Outcome State Fault Refusal :=
  if s.pins.rst then .next s.clearStrobes.assertReset else s.clearStrobes.phaseAct

/-- After the block's action the surroundings make their move (R26). -/
def afterAct (o : Host.Outcome State Fault Refusal) : Host.Outcome State Fault Refusal :=
  match o with
  | .next t => .next t.takePins
  | .fault f => .fault f
  | .refused r => .refused r

/-- A block that has its configuration: startup has run, or a bench record stands for the load of one
(notes/assumptions/9.md). -/
def State.started (s : State) : State := if s.phase = .reset then s.startup Config.benchRecord else s

/-- A request put on the pins of a started block that is free to accept it. -/
def State.present (s : State) (q : Request) : State :=
  { s.started with
    busy := false
    phase := .idle
    pins := { s.pins with rst := false, reqValid := true, reqWord := q.word, reqOpd := q.opd } }

end Sys2Proof.Machine
end

