-- ==== Sys2Proof/Machine/Step.lean ====
section
/-! DEFINITION. One step of the machine, and where its next request is placed. -/

namespace Sys2Proof.Machine

/-- One step: the block's action, then the surroundings' move. -/
def step (s : State) : Host.Outcome State Fault Refusal := afterAct s.act

/-- The state with this request presented to a block that is free to accept it, so that the next step runs it. -/
def State.withFetchWord (s : State) (nbits w : Nat) : State := s.present (requestOfBits nbits w)

end Sys2Proof.Machine
end

