-- ==== Sys2Proof/Safety.lean ====
section
/-! DEFINITION. The terms in which claims about a run are made: the trace a train should leave, counts over a trace,
what the surroundings refrain from, and the invariant of the machine. -/

namespace Sys2Proof.Machine

/-- One level-hold: a `SetLevel` and the hold after it (R9). -/
def levelHold (pw : Nat) (b : Level) : List Event := [.set b, .hold pw]

/-- The levels a train has put on the line when it stands before level i of repetition r (R96). -/
def levelsBefore (w : Waveform) (r i : Nat) : List Level := (List.replicate r w).flatten ++ w.take i

/-- The trace of a train that stands there and has met no failure (R94): the idle guard, then the level-holds. -/
def trainTrace (w : Waveform) (pw r i : Nat) : List Event :=
  .set false :: (levelsBefore w r i).flatMap (levelHold pw)

/-- An event that is a line access (R31). -/
def Event.isAccess : Event → Bool
  | .set _ => true
  | .setFail _ => true
  | .hold _ => false

/-- The time an event takes (R8). -/
def Event.time : Event → Nat
  | .set _ => 0
  | .setFail _ => 0
  | .hold d => d

/-- How many line accesses a trace holds (R39, R100). -/
def accessCount (t : List Event) : Nat := t.countP Event.isAccess

/-- How many holds a trace holds (R100). -/
def holdCount (t : List Event) : Nat := t.countP fun e => !e.isAccess

/-- The time the holds of a trace take (R101). -/
def holdTime (t : List Event) : Nat := (t.map Event.time).sum

/-- An event with its level forgotten (R157). -/
def Event.shape : Event → Event
  | .set _ => .set false
  | .setFail _ => .setFail false
  | .hold d => .hold d

/-- The surroundings keep `rst` at 0, now and in every coming step they have listed. -/
def State.NoReset (s : State) : Prop := ∀ p ∈ s.pins :: s.inbox, p.rst = false

/-- They also answer every `SetLevel` with success. -/
def State.Undisturbed (s : State) : Prop := ∀ p ∈ s.pins :: s.inbox, p.rst = false ∧ p.lineFault = false

/-- The configuration registers and `STATUS.FATAL` of two states agree (R19). -/
def sameConfig (s t : State) : Prop :=
  t.cfgKey = s.cfgKey ∧ t.cfgPin = s.cfgPin ∧ t.cfgDefdev = s.cfgDefdev ∧ t.cfgPw = s.cfgPw ∧
    t.cfgRc = s.cfgRc ∧ t.fatal = s.fatal

/-- The transmitter's working registers of two states agree (R23). -/
def sameTx (s t : State) : Prop :=
  t.txWf = s.txWf ∧ t.txR = s.txR ∧ t.txI = s.txI ∧ t.txH = s.txH

/-- The output ports of two states agree (R55). -/
def sameOutputs (s t : State) : Prop :=
  t.rspValid = s.rspValid ∧ t.rspErr = s.rspErr ∧ t.rspData = s.rspData ∧ t.lineOut = s.lineOut ∧
    t.lineSet = s.lineSet

/-- A train is under way on a legal configuration: 128 levels, and a position inside them (R22, R93). -/
structure State.TrainOn (s : State) : Prop where
  busy : s.busy = true
  notFatal : s.fatal = false
  pwPos : 0 < s.cfgPw
  rcPos : 0 < s.cfgRc
  length : s.txWf.length = Config.wfLen
  repetition : s.txR < s.cfgRc
  index : s.txI < Config.wfLen

/-- The response a train ends with, and the trace it leaves (R98, R99). -/
def State.TrainEnded (s : State) (r : Response) : Prop :=
  (r = .ok none ∧ s.trace = trainTrace s.txWf s.cfgPw s.cfgRc 0) ∨
  (r = .error (.transmissionFailed .guard) ∧ s.trace = [.setFail false]) ∨
  (r = .error (.transmissionFailed (.level s.txR s.txI)) ∧
    ∃ b, s.txWf[s.txI]? = some b ∧ s.trace = trainTrace s.txWf s.cfgPw s.txR s.txI ++ [.setFail b])

/-- The responses of a request that ends before any access: the two results and the two errors that can be met
through the ports (R115, R116, R117). -/
def quietResponse : Response → Bool
  | .ok data => data.isSome
  | .error (.invalidConfiguration .startup) => true
  | .error (.invalidCommand _) => true
  | .error _ => false

/-- What holds at each control point: where the train stands and the trace it has left so far. -/
def State.PhaseInv (s : State) : Prop :=
  match s.phase with
  | .reset => s.busy = false
  | .idle => s.busy = false
  | .guard _ => s.TrainOn ∧ s.txR = 0 ∧ s.txI = 0 ∧ s.trace = []
  | .level _ => s.TrainOn ∧ s.trace = trainTrace s.txWf s.cfgPw s.txR s.txI
  | .hold =>
    s.TrainOn ∧ 0 < s.txH ∧ s.txH ≤ s.cfgPw ∧ ∃ b, s.txWf[s.txI]? = some b ∧
      s.trace = trainTrace s.txWf s.cfgPw s.txR s.txI ++ [.set b]
  | .respond _ r =>
    (s.busy = true ∧ s.TrainOn ∧ s.TrainEnded r) ∨ (s.busy = false ∧ s.trace = [] ∧ quietResponse r = true)

/-- The invariant of the machine: the configured key has 5 entries (R11) and the control point, the flags, the
working registers and the trace agree. -/
def State.Inv (s : State) : Prop := s.cfgKey.length = Config.keyLen ∧ s.PhaseInv

/-- The same state with other levels on the input pins. -/
def State.withPins (s : State) (p : Pins) : State := { s with pins := p }

/-- Two outcomes that are the same but for the input pins of the next state: what is left when the surroundings
change a pin the block does not read. -/
def agreeUpToPins : Host.Outcome State Fault Refusal → Host.Outcome State Fault Refusal → Prop
  | .next t, .next u => { u with pins := t.pins } = t
  | .fault f, .fault g => f = g
  | .refused r, .refused q => r = q
  | _, _ => False

/-- The configuration is inside the contract: a positive pulse width and a positive repeat count (R15, R16). -/
def State.InContract (s : State) : Prop := 0 < s.cfgPw ∧ 0 < s.cfgRc

end Sys2Proof.Machine
end

