-- ==== Sys2Proof/Certificates/Slice0/Obligations.lean ====
section
/-! DEFINITION. The statements for the provers, made from the numbered rules of spec/. Each docstring names the
rule or the section it formalises; where a clause rests on the model's own choice it names the log entry. -/

open Sys2Proof Sys2Proof.Machine

/-! ## Requests (spec 30) -/

/-- R56, R59 to R61, R36: encoding a well-formed operation and decoding it gives it back, every operand included. -/
def Obligations.EncodedRequestDecodesBack : Prop :=
  ∀ i : Instr, i.WellFormed → decodeRequest (encodeWord i) (encodeOpd i) = i

/-- R56, "Every 16-bit value decodes to exactly one operation": whatever stands on the request port is a well-formed
operation. -/
def Obligations.EveryRequestIsWellFormed : Prop :=
  ∀ (word : RequestWord) (opd : Bus), (decodeRequest word opd).WellFormed

/-- R62: a word selects the row whose `match` equals the word masked with 0xC000, and only that row. -/
def Obligations.MaskedWordSelectsOneRow : Prop :=
  ∀ (word : RequestWord) (opd : Bus),
    (word &&& 0xC000#16 = 0x0000#16 ↔ ∃ key device command, decodeRequest word opd = .encode key device command) ∧
    (word &&& 0xC000#16 = 0x4000#16 ↔ ∃ codeword, decodeRequest word opd = .expand codeword) ∧
    (word &&& 0xC000#16 = 0x8000#16 ↔ ∃ waveform, decodeRequest word opd = .transmit waveform) ∧
    (word &&& 0xC000#16 = 0xC000#16 ↔ ∃ token device, decodeRequest word opd = .issue token device)

/-- R56 (with the packings of R36): where each field of a request stands, for all four values of `op`. -/
def Obligations.RequestFieldsAreRead : Prop :=
  ∀ (word : RequestWord) (opd : Bus),
    (word.extractLsb' 14 2 = 0b00#2 →
      decodeRequest word opd =
        .encode [word.getLsbD 8, word.getLsbD 9, word.getLsbD 10, word.getLsbD 11, word.getLsbD 12]
          (word.toNat % 256) (if word.getLsbD 13 then .on else .off)) ∧
    (word.extractLsb' 14 2 = 0b01#2 →
      ∃ cw, decodeRequest word opd = .expand cw ∧ cw.length = 16 ∧
        ∀ s, s < 16 → ∃ sym, cw[s]? = some sym ∧ ∀ j, j < 8 → sym.getLsbD j = opd.getLsbD (120 - 8 * s + j)) ∧
    (word.extractLsb' 14 2 = 0b10#2 →
      ∃ w, decodeRequest word opd = .transmit w ∧ w.length = 128 ∧
        ∀ n, n < 128 → w[n]? = some (opd.getLsbD (127 - n))) ∧
    (word.extractLsb' 14 2 = 0b11#2 →
      decodeRequest word opd =
        .issue (if word.toNat / 256 % 64 = 0 then .off else if word.toNat / 256 % 64 = 1 then .on
          else .unrecognised (word.toNat / 256 % 64)) (word.toNat % 256))

/-- R64: device bits 5 and above, the bits marked `-` and the long operand of ENCODE and ISSUE change nothing. -/
def Obligations.IgnoredBitsChangeNothing : Prop :=
  (∀ key device k command s,
    exec (.encode key (32 * k + device) command) s = exec (.encode key device command) s) ∧
  (∀ token device k s, exec (.issue token (32 * k + device)) s = exec (.issue token device) s) ∧
  (∀ (word word' : RequestWord) (opd : Bus), word.extractLsb' 14 2 = word'.extractLsb' 14 2 →
    word.extractLsb' 14 2 = 0b01#2 ∨ word.extractLsb' 14 2 = 0b10#2 →
    decodeRequest word opd = decodeRequest word' opd) ∧
  (∀ (word : RequestWord) (opd opd' : Bus),
    word.extractLsb' 14 2 = 0b00#2 ∨ word.extractLsb' 14 2 = 0b11#2 →
    decodeRequest word opd = decodeRequest word opd')

/-- 95_test_vectors.md, E1, E12, X4, T8, I2, I3: request words written out from R56 decode to what they stand for.
-/
def Obligations.SpecRequestWordsDecode : Prop :=
  decodeTableWord 16 0x3F01 = some (.encode [true, true, true, true, true] 1 .on) ∧
  decodeTableWord 16 0x350A = some (.encode [true, false, true, false, true] 10 .on) ∧
  decodeTableWord 144 0xFF00A5010000000000000000000000004000 =
    some (.expand ([0xFF#8, 0x00#8, 0xA5#8, 0x01#8] ++ List.replicate 12 0#8)) ∧
  decodeTableWord 16 0x8000 = some (.transmit (List.replicate 128 false)) ∧
  decodeTableWord 16 0xC103 = some (.issue .on 3) ∧
  decodeTableWord 16 0xC203 = some (.issue (.unrecognised 2) 3)

/-! ## The symbol codec (spec 40) -/

/-- R71, the key law. -/
def Obligations.KeyEntriesGovernSymbols : Prop :=
  ∀ (key : List Bool) (device : Nat) (command : Command), key.length = 5 →
    ∃ cw, encodeCall key device command = .ok cw ∧
      ∀ i, i < 5 → cw[i]? = some (if key[i]? = some true then Config.long else Config.short)

/-- R72, the device law, and that every subset of the five channels can be selected. -/
def Obligations.DeviceBitsGovernSymbols : Prop :=
  (∀ (key : List Bool) (device : Nat) (command : Command), key.length = 5 →
    ∃ cw, encodeCall key device command = .ok cw ∧
      ∀ i, i < 5 → cw[5 + i]? = some (if device / 2 ^ i % 2 = 1 then Config.long else Config.short)) ∧
  (∀ channels : List Bool, channels.length = 5 →
    ∃ device, device < 32 ∧ ∀ i, i < 5 → (device / 2 ^ i % 2 = 1 ↔ channels[i]? = some true))

/-- R73, the command law. -/
def Obligations.CommandTogglesThePairAlone : Prop :=
  ∀ (key : List Bool) (device : Nat), key.length = 5 →
    ∃ off on, encodeCall key device .off = .ok off ∧ encodeCall key device .on = .ok on ∧
      off[10]? = some Config.short ∧ off[11]? = some Config.long ∧
      on[10]? = some Config.long ∧ on[11]? = some Config.short ∧
      ∀ j, j ≠ 10 → j ≠ 11 → on[j]? = off[j]?

/-- R74, the trailer law and the truncation of the device. -/
def Obligations.TrailerIsFixedAndDeviceIsMod32 : Prop :=
  (∀ (key : List Bool) (device : Nat) (command : Command), key.length = 5 →
    ∃ cw, encodeCall key device command = .ok cw ∧ cw.drop 12 = [0x80#8, 0x00#8, 0x00#8, 0x00#8]) ∧
  (∀ (key : List Bool) (device : Nat) (command : Command),
    encodeCall key device command = encodeCall key (device % 32) command)

/-- 40_symbol_codec.md, the consequences the spec itself derives, (a), (b), (d) and (e): length 16, every entry one
of the four values in its place, the command pair one SHORT and one LONG, a leading 1, and the number of bits set.
-/
def Obligations.CodewordShape : Prop :=
  ∀ (key : List Bool) (device : Nat) (command : Command), key.length = 5 →
    ∃ cw, encodeCall key device command = .ok cw ∧ cw.length = 16 ∧
      (∀ j x, cw[j]? = some x →
        (j ≤ 11 ∧ (x = Config.short ∨ x = Config.long)) ∨ (j = 12 ∧ x = 0x80#8) ∨ (13 ≤ j ∧ x = 0x00#8)) ∧
      ((cw[10]? = some Config.short ∧ cw[11]? = some Config.long) ∨
        (cw[10]? = some Config.long ∧ cw[11]? = some Config.short)) ∧
      (∃ x, cw[0]? = some x ∧ x.getLsbD 7 = true) ∧
      (cw.flatMap symbolLevels).count true + 2 * (key.count true + (deviceBits device).count true) = 47

/-- 40_symbol_codec.md, the consequence (c) the spec itself derives: ENCODE is injective on (key, device mod 32,
command). -/
def Obligations.EncodeIsInjective : Prop :=
  ∀ (key key' : List Bool) (device device' : Nat) (command command' : Command),
    key.length = 5 → key'.length = 5 →
    encodeCall key device command = encodeCall key' device' command' →
    key = key' ∧ device % 32 = device' % 32 ∧ command = command'

/-- R70: the completion of ENCODE. On a block that is not fatal it always completes; the whole next state is given,
so everything it does not name is unchanged. The result is the packed codeword; the time until the response is a
free value. (notes/assumptions/4.md.) -/
def Obligations.EncodeCompletes : Prop :=
  ∀ (key : List Bool) (device : Nat) (command : Command) (s : State), s.fatal = false → key.length = 5 →
    ∃ cw, encodeCall key device command = .ok cw ∧
      exec (.encode key device command) s = .next { s with
        trace := []
        phase := .respond (Config.freeDelay s.draws) (.ok (some (packCodeword cw)))
        draws := s.draws + 1 }

/-- R70: a key of another length ends ENCODE with `InvalidConfiguration` (key length). -/
def Obligations.EncodeRejectsOtherKeyLengths : Prop :=
  ∀ (key : List Bool) (device : Nat) (command : Command) (s : State), s.fatal = false → key.length ≠ 5 →
    encodeCall key device command = .error (.invalidConfiguration .keyLength) ∧
    exec (.encode key device command) s = .next { s with
      trace := []
      phase := .respond (Config.freeDelay s.draws) (.error (.invalidConfiguration .keyLength))
      draws := s.draws + 1 }

/-! ## The pulse expander (spec 41) -/

/-- R81: the length law, and that a length other than 16 is an error. -/
def Obligations.ExpandLengthLaw : Prop :=
  (∀ (cw : Codeword) (w : Waveform), expandCall cw = .ok w → w.length = 8 * cw.length ∧ w.length = 128) ∧
  (∀ cw : Codeword, cw.length = 16 → ∃ w, expandCall cw = .ok w) ∧
  (∀ cw : Codeword, cw.length ≠ 16 → expandCall cw = .error (.invalidCodeword cw.length))

/-- 41_pulse_expander.md, EXPAND, and 20_memory.md, bit order: entry 8s + j of the waveform is bit 7 - j of symbol
s, both ways. -/
def Obligations.ExpandBitOrder : Prop :=
  ∀ cw : Codeword, cw.length = 16 →
    ∃ w, expandCall cw = .ok w ∧
      (∀ s j, s < 16 → j < 8 → ∃ sym, cw[s]? = some sym ∧ w[8 * s + j]? = some (sym.getLsbD (7 - j))) ∧
      (∀ n, n < 128 → ∃ sym, cw[n / 8]? = some sym ∧ w[n]? = some (sym.getLsbD (7 - n % 8)))

/-- 20_memory.md, the packed form: symbol s and entry n sit where the packing says, and the packed waveform of
`EXPAND(cw)` is bit for bit the packed codeword (the spec's own inference). -/
def Obligations.PackedWaveformIsPackedCodeword : Prop :=
  ∀ cw : Codeword, cw.length = 16 →
    (∀ s j, s < 16 → j < 8 → ∃ sym, cw[s]? = some sym ∧
      (packCodeword cw).getLsbD (120 - 8 * s + j) = sym.getLsbD j) ∧
    ∃ w, expandCall cw = .ok w ∧ (∀ n, n < 128 → w[n]? = some ((packWaveform w).getLsbD (127 - n))) ∧
      packWaveform w = packCodeword cw

/-- 41_pulse_expander.md, purity (the spec's own inference): EXPAND is injective. -/
def Obligations.ExpandIsInjective : Prop :=
  ∀ cw cw' : Codeword, cw.length = 16 → cw'.length = 16 → expandCall cw = expandCall cw' → cw = cw'

/-- 41_pulse_expander.md, the consequences the spec itself derives, (a) to (d), for the waveform of a built
codeword. -/
def Obligations.BuiltWaveformShape : Prop :=
  ∀ (key : List Bool) (device : Nat) (command : Command), key.length = 5 →
    ∃ w, issueWaveform key device command = .ok w ∧ w.length = 128 ∧
      w[0]? = some true ∧ w[96]? = some true ∧
      (∀ n, 97 ≤ n → n < 128 → w[n]? = some false) ∧
      (∀ s, s < 12 → ∃ x, (w.drop (8 * s)).take 8 = [true, false, false, false, true, x, x, false]) ∧
      w.count true + 2 * (key.count true + (deviceBits device).count true) = 47

/-- R80: the completion of EXPAND, with the whole next state; any 16 symbols expand. -/
def Obligations.ExpandCompletes : Prop :=
  ∀ (cw : Codeword) (s : State), s.fatal = false → cw.length = 16 →
    ∃ w, expandCall cw = .ok w ∧
      exec (.expand cw) s = .next { s with
        trace := []
        phase := .respond (Config.freeDelay s.draws) (.ok (some (packWaveform w)))
        draws := s.draws + 1 }

/-- R117, as 93_implementation_defined.md U10 has a model with list-typed codewords keep it: EXPAND of a codeword
whose length is not 16 is the assertion failure `InvalidCodeword`, a fault with the offending length; nothing else
raises it; and no step, whatever stands on the request port, does. (While `STATUS.FATAL` = 1 every request is answered
before this check.) -/
def Obligations.ExpandRejectsOtherLengths : Prop :=
  (∀ (cw : Codeword) (s : State), s.fatal = false → cw.length ≠ 16 →
    exec (.expand cw) s = .fault (.invalidCodeword cw.length)) ∧
  (∀ (i : Instr) (s : State) (n : Nat), exec i s = .fault (.invalidCodeword n) →
    ∃ cw, i = .expand cw ∧ cw.length = n ∧ n ≠ 16 ∧ s.fatal = false) ∧
  (∀ (s : State) (n : Nat), step s ≠ .fault (.invalidCodeword n))

/-! ## The start of a train (spec 42, 43) -/

/-- R93: the completion of TRANSMIT at its acceptance, with the whole next state, for a waveform of any length (R91)
and a configuration inside the contract (R15, R16). (The time until the guard is a free value:
notes/assumptions/4.md.) -/
def Obligations.TransmitStartsTheTrain : Prop :=
  ∀ (w : Waveform) (s : State), s.fatal = false → s.InContract →
    exec (.transmit w) s = .next { s with
      busy := true
      txWf := w
      txR := 0
      txI := 0
      trace := []
      phase := .guard (Config.freeDelay s.draws)
      draws := s.draws + 1 }

/-- R105, R106: the completion of ISSUE at its acceptance: the waveform of the configured key starts the train. (The
time until the guard is a free value: notes/assumptions/4.md.) -/
def Obligations.IssueStartsTheTrain : Prop :=
  ∀ (token : Token) (command : Command) (device : Nat) (s : State),
    s.fatal = false → s.InContract → s.cfgKey.length = 5 →
    (token = .on ∧ command = .on) ∨ (token = .off ∧ command = .off) →
    ∃ cw w, encodeCall s.cfgKey device command = .ok cw ∧ expandCall cw = .ok w ∧
      exec (.issue token device) s = .next { s with
        busy := true
        txWf := w
        txR := 0
        txI := 0
        trace := []
        phase := .guard (Config.freeDelay s.draws)
        draws := s.draws + 1 }

/-- R106: ISSUE is TRANSMIT of the expanded codeword of the configured key, whatever the state. -/
def Obligations.IssueIsEncodeExpandTransmit : Prop :=
  ∀ (token : Token) (command : Command) (device : Nat) (s : State), s.cfgKey.length = 5 →
    (token = .on ∧ command = .on) ∨ (token = .off ∧ command = .off) →
    ∃ cw w, encodeCall s.cfgKey device command = .ok cw ∧ expandCall cw = .ok w ∧
      exec (.issue token device) s = exec (.transmit w) s

/-- 93_implementation_defined.md U3, U4: at the transmit step, of TRANSMIT and of an ISSUE that passed its checks, a
repeat count of 0 or a pulse width of 0 is outside the contract, and the model stops by name
(notes/assumptions/6.md). -/
def Obligations.ZeroTimingsAreRefused : Prop :=
  ∀ (i : Instr) (s : State), s.fatal = false →
    (∃ w, i = .transmit w) ∨
      (s.cfgKey.length = 5 ∧ ∃ token device, i = .issue token device ∧ (token = .on ∨ token = .off)) →
    (s.cfgRc = 0 → exec i s = .refused .repeatCountZero) ∧
    (s.cfgRc ≠ 0 → s.cfgPw = 0 → exec i s = .refused .pulseWidthZero)

/-- R107, R108: an ISSUE with an unrecognised token ends with `InvalidCommand` and touches nothing: the whole next
state is given. -/
def Obligations.UnrecognisedTokenIsRejected : Prop :=
  ∀ (code device : Nat) (s : State), s.fatal = false →
    exec (.issue (.unrecognised code) device) s = .next { s with
      trace := []
      phase := .respond (Config.freeDelay s.draws) (.error (.invalidCommand (.unrecognised code)))
      draws := s.draws + 1 }

/-- R116: while `STATUS.FATAL` = 1 every request of all four operations is answered `InvalidConfiguration` before
any other check and without touching the line. -/
def Obligations.FatalBlockAnswersInvalidConfiguration : Prop :=
  ∀ (i : Instr) (s : State), s.fatal = true →
    exec i s = .next { s with
      trace := []
      phase := .respond (Config.freeDelay s.draws) (.error (.invalidConfiguration .startup))
      draws := s.draws + 1 }

/-- 60_exceptions.md, priority: the checks of ISSUE in their order, FATAL, token, key length, and then the line. -/
def Obligations.IssueChecksInOrder : Prop :=
  ∀ (token : Token) (device : Nat) (s : State),
    (s.fatal = true → exec (.issue token device) s = .next (s.raise (.invalidConfiguration .startup))) ∧
    (s.fatal = false → (∃ code, token = .unrecognised code) →
      exec (.issue token device) s = .next (s.raise (.invalidCommand token))) ∧
    (s.fatal = false → token = .on ∨ token = .off → s.cfgKey.length ≠ 5 →
      exec (.issue token device) s = .next (s.raise (.invalidConfiguration .keyLength))) ∧
    (s.fatal = false → token = .on ∨ token = .off → s.cfgKey.length = 5 →
      ∃ w, exec (.issue token device) s = s.startTrain w)

/-- 10_state.md, access summary: what acceptance of a request leaves unchanged, for each operation. No register of
the configuration, no output port, no hold in progress, no pin and not the line; ENCODE and EXPAND also leave
`STATUS.BUSY` and all of `TX.*`. (The block has no memory, R24.) (The access summary lists no output port: that
`rsp_err`, `rsp_data` and `line_out` stay is notes/assumptions/11.md; that `TX.*` holds a value to keep between
trains is notes/assumptions/19.md.) -/
def Obligations.AcceptanceFrame : Prop :=
  ∀ (i : Instr) (s t : State), exec i s = .next t →
    sameConfig s t ∧ sameOutputs s t ∧ t.line = s.line ∧ t.txH = s.txH ∧ t.pins = s.pins ∧ t.inbox = s.inbox ∧
    t.trace = [] ∧
    (i.op = .encode ∨ i.op = .expand → t.busy = s.busy ∧ sameTx s t)

/-- 60_exceptions.md, effects of an error: an error response given before the transmit step leaves every register and
the line exactly as they were, and its trace is empty; it is never `InvalidCodeword`, which stops the model instead
(`ExpandRejectsOtherLengths`). (Only the model's own control point and counter move, notes/assumptions/10.md; the time
until the response is a free value, notes/assumptions/4.md.) -/
def Obligations.EarlyErrorsAreFreeOfEffects : Prop :=
  ∀ (i : Instr) (s t : State) (left : Nat) (e : Error), exec i s = .next t → t.phase = .respond left (.error e) →
    (∀ p, e ≠ .transmissionFailed p) ∧ (∀ n, e ≠ .invalidCodeword n) ∧
    t = { s with trace := [], phase := .respond left (.error e), draws := s.draws + 1 }

/-- R119: `InvalidCommand` is raised by ISSUE alone, for a token other than "on" and "off"; it is returned as an
error that carries the token, and the transmitter is not started. -/
def Obligations.InvalidCommandComesFromIssueAlone : Prop :=
  (∀ (i : Instr) (s t : State) (left : Nat) (token : Token),
    exec i s = .next t → t.phase = .respond left (.error (.invalidCommand token)) →
    token ≠ .on ∧ token ≠ .off ∧ (∃ device, i = .issue token device) ∧ t.busy = s.busy ∧ t.txWf = s.txWf) ∧
  (∀ (token : Token) (device : Nat) (s : State), s.fatal = false → token ≠ .on → token ≠ .off →
    ∃ t left, exec (.issue token device) s = .next t ∧
      t.phase = .respond left (.error (.invalidCommand token)))

/-! ## The sequencer (spec 42, 60) -/

/-- A step runs the decoded request (20_memory.md, coherence; 30_encoding.md, ports): when the block is ready and a
request is presented, the step is exec of the decoded word and operand, after the strobes of the step before fall
and before the surroundings' next move. (The order of the three is the model's: notes/assumptions/18.md.) -/
def Obligations.StepRunsTheDecodedRequest : Prop :=
  ∀ s : State, s.pins.rst = false → s.phase = .idle → s.busy = false → s.pins.reqValid = true →
    step s =
      match exec (decodeRequest s.pins.reqWord s.pins.reqOpd) { s with rspValid := false, lineSet := false } with
      | .next t => .next { t with pins := t.inbox.headD t.pins, inbox := t.inbox.tail }
      | .fault f => .fault f
      | .refused r => .refused r

/-- 60_exceptions.md, between operations: with no request the idle block stays as it is, the line left as it was.
(When the surroundings move: notes/assumptions/18.md.) -/
def Obligations.IdleBlockWaits : Prop :=
  ∀ s : State, s.pins.rst = false → s.phase = .idle → s.pins.reqValid = false →
    step s = .next { s with
      rspValid := false, lineSet := false, pins := s.inbox.headD s.pins, inbox := s.inbox.tail }

/-- R95 as far as one step shows it: the idle guard is one `SetLevel(false)`; no hold follows it, and the first
level comes after a free gap. (The gap is a free value: notes/assumptions/4.md.) -/
def Obligations.GuardDrivesTheLineLow : Prop :=
  ∀ s : State, s.pins.rst = false → s.pins.lineFault = false → s.phase = .guard 0 → s.txWf ≠ [] →
    ∃ t, step s = .next t ∧ t.line = false ∧ t.lineOut = false ∧ t.lineSet = true ∧
      t.trace = s.trace ++ [.set false] ∧ t.phase = .level (Config.freeDelay s.draws) ∧
      t.busy = s.busy ∧ t.rspValid = false ∧ sameConfig s t ∧ sameTx s t

/-- R94: a level access that succeeds puts the level on the line and begins the hold of `CFG.PW`. (A model's step is
one action: notes/assumptions/4.md.) -/
def Obligations.LevelAccessBeginsTheHold : Prop :=
  ∀ (s : State) (b : Level), s.pins.rst = false → s.pins.lineFault = false → s.phase = .level 0 →
    s.txWf[s.txI]? = some b →
    ∃ t, step s = .next t ∧ t.line = b ∧ t.lineOut = b ∧ t.lineSet = true ∧
      t.trace = s.trace ++ [.set b] ∧ t.phase = .hold ∧ t.txH = s.cfgPw ∧
      t.busy = s.busy ∧ t.rspValid = false ∧ sameConfig s t ∧
      t.txWf = s.txWf ∧ t.txR = s.txR ∧ t.txI = s.txI

/-- R99: when a `SetLevel` fails no hold follows it, no further access is made whatever the surroundings do short of
reset, and the response is `TransmissionFailed` with `STATUS.BUSY` = 0; the trace is cut after the failing access.
(`STATUS.BUSY` falls with the response: notes/assumptions/7.md; the working registers keep their values:
notes/assumptions/19.md.) -/
def Obligations.FailedAccessEndsTheTrain : Prop :=
  ∀ (s : State) (b : Level), s.NoReset → s.pins.lineFault = true →
    (s.phase = .guard 0 ∧ b = false) ∨ (s.phase = .level 0 ∧ s.txWf[s.txI]? = some b) →
    ∃ (n : Nat) (u : State), Sys2Proof.core.run n s = .next u ∧ u.rspValid = true ∧ u.rspErr = 3#3 ∧ u.busy = false ∧
      u.phase = .idle ∧ u.lineOut = b ∧ u.trace = s.trace ++ [.setFail b] ∧ sameConfig s u ∧ sameTx s u

/-- R132: a hold lasts exactly its count of time units, the line unchanged, no access made, and then it is in the
trace. (One step of a hold is one microsecond: notes/assumptions/4.md.) -/
def Obligations.HoldLastsItsCount : Prop :=
  ∀ s : State, s.NoReset → s.phase = .hold → 0 < s.txH →
    (∀ k, k < s.txH → ∃ t : State, Sys2Proof.core.run k s = .next t ∧ t.phase = .hold ∧ t.txH = s.txH - k ∧
      t.line = s.line ∧ t.trace = s.trace ∧ (0 < k → t.lineSet = false)) ∧
    ∃ t : State, Sys2Proof.core.run s.txH s = .next t ∧ t.phase ≠ .hold ∧ t.txH = 0 ∧ t.line = s.line ∧
      t.lineSet = false ∧ t.trace = s.trace ++ [.hold s.cfgPw]

/-- R22: the position advances by one level after a hold, from level L - 1 to level 0 of the next repetition, and
the train ends when the repetition would reach `CFG.RC`. (At the end the position keeps its last value:
notes/assumptions/19.md.) (The free time before the next access, also between repetitions, is the access's own and
the model's choice: notes/assumptions/4.md; 10_state.md has no time pass there.) -/
def Obligations.PositionAdvances : Prop :=
  ∀ s : State, s.pins.rst = false → s.phase = .hold → s.txH = 1 →
    ∃ t, step s = .next t ∧ t.trace = s.trace ++ [.hold s.cfgPw] ∧ t.txH = 0 ∧ t.txWf = s.txWf ∧
      t.line = s.line ∧ t.lineSet = false ∧ t.busy = s.busy ∧ sameConfig s t ∧
      (s.txI + 1 < s.txWf.length →
        t.txI = s.txI + 1 ∧ t.txR = s.txR ∧ t.phase = .level (Config.freeDelay s.draws)) ∧
      (s.txWf.length ≤ s.txI + 1 → s.txR + 1 < s.cfgRc →
        t.txI = 0 ∧ t.txR = s.txR + 1 ∧ t.phase = .level (Config.freeDelay s.draws)) ∧
      (s.txWf.length ≤ s.txI + 1 → s.cfgRc ≤ s.txR + 1 →
        t.txI = s.txI ∧ t.txR = s.txR ∧ t.phase = .respond (Config.freeDelay s.draws) (.ok none))

/-- R58 with the numbers of R115: the response on the ports, for every kind of response. (`STATUS.BUSY` falls with
the response: notes/assumptions/7.md; the working registers stay: notes/assumptions/19.md.) -/
def Obligations.ResponseIsGiven : Prop :=
  ∀ (s : State) (r : Response), s.pins.rst = false → s.phase = .respond 0 r →
    ∃ t, step s = .next t ∧ t.rspValid = true ∧ t.busy = false ∧ t.phase = .idle ∧ t.line = s.line ∧
      t.lineSet = false ∧ t.trace = s.trace ∧ sameConfig s t ∧ sameTx s t ∧
      (r = .ok none → t.rspErr = 0#3) ∧
      (∀ d, r = .ok (some d) → t.rspErr = 0#3 ∧ t.rspData = d) ∧
      (∀ c, r = .error (.invalidConfiguration c) → t.rspErr = 1#3) ∧
      (∀ n, r = .error (.invalidCodeword n) → t.rspErr = 2#3) ∧
      (∀ p, r = .error (.transmissionFailed p) → t.rspErr = 3#3) ∧
      (∀ k, r = .error (.invalidCommand k) → t.rspErr = 4#3)

/-- 30_encoding.md, ports, and 20_memory.md, ordering: from acceptance to its response the block is not ready, gives
no other response and makes no access; then the one response comes, with its code and its result.
(notes/assumptions/7.md, 11.md.) -/
def Obligations.OneResponseComes : Prop :=
  ∀ (s : State) (n : Nat) (r : Response), s.NoReset → s.phase = .respond n r →
    (∀ k, k ≤ n → ∃ t : State, Sys2Proof.core.run k s = .next t ∧ t.reqReady = false ∧ t.phase = .respond (n - k) r ∧
      t.line = s.line ∧ t.trace = s.trace ∧ (0 < k → t.rspValid = false ∧ t.lineSet = false)) ∧
    ∃ t : State, Sys2Proof.core.run (n + 1) s = .next t ∧ t.rspValid = true ∧ t.rspErr = responseCode r ∧
      (∀ d, r = .ok (some d) → t.rspData = d) ∧
      t.busy = false ∧ t.phase = .idle ∧ t.line = s.line ∧ t.trace = s.trace

/-- 60_exceptions.md, error codes: a response never carries one of the codes 5 to 7. -/
def Obligations.ErrorCodesStayInRange : Prop :=
  ∀ s t : State, step s = .next t → t.rspValid = true → t.rspErr.toNat ≤ 4

/-- 20_memory.md, the output line: a step that makes no access leaves the line and `line_out` alone, and only the
transmitter at an access makes one. (That the line stays at its level in a reset step, against the table of reset
values, and after a failed access until the next one: notes/assumptions/5.md; that `line_out` stays between
accesses: notes/assumptions/11.md.) -/
def Obligations.OnlyAnAccessMovesTheLine : Prop :=
  ∀ s t : State, step s = .next t →
    (t.lineSet = true → s.pins.rst = false ∧ (s.phase = .guard 0 ∨ s.phase = .level 0)) ∧
    (t.lineSet = false → t.line = s.line ∧ t.lineOut = s.lineOut)

/-- R19: no step but startup and reset writes the configuration or `STATUS.FATAL`. -/
def Obligations.ConfigurationIsImmutable : Prop :=
  ∀ s t : State, s.pins.rst = false → s.phase ≠ .reset → step s = .next t → sameConfig s t

/-- 20_memory.md, exclusive ownership and operands: a block that is not ready does not see the request pins;
whatever they show, its step is the same (but for the pins themselves). -/
def Obligations.UnreadyBlockIgnoresRequestPins : Prop :=
  ∀ (s : State) (valid : Bool) (word : RequestWord) (opd : Bus), s.reqReady = false →
    agreeUpToPins (step s)
      (step (s.withPins { s.pins with reqValid := valid, reqWord := word, reqOpd := opd }))

/-- R152 as far as one step shows it: the startup record is read at startup only. -/
def Obligations.RecordIsReadAtStartupOnly : Prop :=
  ∀ (s : State) (c : StartupRecord), s.pins.rst = true ∨ s.phase ≠ .reset →
    agreeUpToPins (step s) (step (s.withPins { s.pins with cfg0 := c }))

/-! ## Reset and startup (spec 70) -/

/-- R141, R142: a record with five key entries, a pin and a default device is loaded, with 300 microseconds and 10
repetitions where it gives none; nothing else is checked and no access is made. (Startup takes one step:
notes/assumptions/18.md.) -/
def Obligations.StartupLoadsAValidRecord : Prop :=
  ∀ (s : State) (p d : Nat), s.pins.rst = false → s.phase = .reset →
    s.pins.cfg0.key.length = 5 → s.pins.cfg0.pin = some p → s.pins.cfg0.defdev = some d →
    step s = .next { s with
      cfgKey := s.pins.cfg0.key
      cfgPin := p
      cfgDefdev := d
      cfgPw := s.pins.cfg0.pw.getD 300
      cfgRc := s.pins.cfg0.rc.getD 10
      fatal := false
      phase := .idle
      rspValid := false
      lineSet := false
      pins := s.inbox.headD s.pins
      inbox := s.inbox.tail }

/-- 70_reset_and_hazards.md, startup and validation: startup loads the two timings either way, and latches
`STATUS.FATAL` exactly when the key has not five entries, the pin is absent or the default device is absent.
(Startup takes one step: notes/assumptions/18.md.) -/
def Obligations.StartupValidatesTheRecord : Prop :=
  ∀ s : State, s.pins.rst = false → s.phase = .reset →
    ∃ t, step s = .next t ∧ t.phase = .idle ∧ t.busy = s.busy ∧ t.line = s.line ∧ t.lineSet = false ∧
      t.cfgPw = s.pins.cfg0.pw.getD 300 ∧ t.cfgRc = s.pins.cfg0.rc.getD 10 ∧
      (t.fatal = true ↔
        s.pins.cfg0.key.length ≠ 5 ∨ s.pins.cfg0.pin = none ∨ s.pins.cfg0.defdev = none)

/-- 70_reset_and_hazards.md, reset: reset wins over everything; the flags fall, no response is given, no access is
made, and the line stays at its level even in the middle of a train. (That the line stays: notes/assumptions/5.md.)
-/
def Obligations.ResetWinsOverEverything : Prop :=
  ∀ s : State, s.pins.rst = true →
    ∃ t, step s = .next t ∧ t.fatal = false ∧ t.busy = false ∧ t.phase = .reset ∧ t.rspValid = false ∧
      t.lineSet = false ∧ t.line = s.line ∧ t.lineOut = s.lineOut

/-- 10_state.md, reset values: the flags, `req_ready` and `rsp_valid` at reset, as the table gives them. `line_set`
= 0 is from the rule on reset in 70_reset_and_hazards.md and not from the table; that the block counts as in reset
although `rst` has just fallen is the model's choice (notes/assumptions/18.md). -/
def Obligations.ResetLeaves : Prop :=
  State.reset.fatal = false ∧ State.reset.busy = false ∧ State.reset.reqReady = false ∧
    State.reset.rspValid = false ∧ State.reset.lineSet = false ∧ State.reset.condition = .inReset

/-! ## The whole train (spec 42) -/

/-- R100 and R101 on the abstract call: a train in which no access fails has exactly the trace of R94, its first
access sets the line low, and its accesses, holds and time are counted. -/
def Obligations.SuccessfulTransmitCounts : Prop :=
  ∀ (w : Waveform) (pw rc : Nat) (fails : Nat → Bool), 0 < pw → 0 < rc →
    (∀ k, k ≤ rc * w.length → fails k = false) →
    ∃ t, transmitCall w pw rc fails = some (t, .ok none) ∧ t = trainTrace w pw rc 0 ∧
      t.head? = some (.set false) ∧ accessCount t = 1 + rc * w.length ∧ holdCount t = rc * w.length ∧
      holdTime t = rc * w.length * pw

/-- R99 and R100 on the abstract call: an abort at the guard makes 1 access and no hold; an abort at (r, i) makes 2
+ r * L + i accesses and r * L + i holds, and its trace is the train's cut after the failing access. -/
def Obligations.AbortedTransmitCounts : Prop :=
  ∀ (w : Waveform) (pw rc : Nat) (fails : Nat → Bool), 0 < pw → 0 < rc →
    (fails 0 = true →
      transmitCall w pw rc fails = some ([.setFail false], .error (.transmissionFailed .guard))) ∧
    (∀ r i, r < rc → i < w.length → (∀ k, k ≤ r * w.length + i → fails k = false) →
      fails (1 + r * w.length + i) = true →
      ∃ b, w[i]? = some b ∧
        transmitCall w pw rc fails =
          some (trainTrace w pw r i ++ [.setFail b], .error (.transmissionFailed (.level r i))) ∧
        accessCount (trainTrace w pw r i ++ [.setFail b]) = 2 + r * w.length + i ∧
        holdCount (trainTrace w pw r i ++ [.setFail b]) = r * w.length + i)

/-- 70_reset_and_hazards.md, timing (the spec's own inference): two successful trains on one configuration have traces
of the same shape, and so as many accesses and the same time, whatever their levels and whatever set them off: for the
document's `transmit` on waveforms of equal length, and for the transmitter of the block. (The trace of the block is
the model's own: notes/assumptions/10.md.) -/
def Obligations.TrainShapeIsIndependentOfLevels : Prop :=
  (∀ (w w' : Waveform) (pw rc : Nat) (fails fails' : Nat → Bool) (t t' : List Event), w.length = w'.length →
    transmitCall w pw rc fails = some (t, .ok none) → transmitCall w' pw rc fails' = some (t', .ok none) →
    t.map Event.shape = t'.map Event.shape ∧ accessCount t = accessCount t' ∧ holdTime t = holdTime t') ∧
  (∀ (s s' : State) (left left' : Nat), s.Inv → s'.Inv → s.busy = true → s'.busy = true →
    s.phase = .respond left (.ok none) → s'.phase = .respond left' (.ok none) →
    s.cfgPw = s'.cfgPw → s.cfgRc = s'.cfgRc →
    s.trace.map Event.shape = s'.trace.map Event.shape ∧ accessCount s.trace = accessCount s'.trace ∧
      holdTime s.trace = holdTime s'.trace)

/-- The invariant holds after reset. (At reset the key register holds five entries of a free value:
notes/assumptions/1.md.) -/
def Obligations.ResetMeetsTheInvariant : Prop := State.reset.Inv

/-- 42_transmitter.md and 10_state.md: every step, whatever the surroundings do, keeps the invariant: while the
block is busy the position is inside the train and the trace is the trace of R94 up to it, and a train ends only as
R98 and R99 say. (The trace and the control point are the model's own: notes/assumptions/10.md.) -/
def Obligations.StepKeepsTheInvariant : Prop :=
  ∀ s t : State, s.Inv → step s = .next t → t.Inv

/-- Under the invariant a step never faults, and it is refused only where a request reaches the transmitter outside
the contract. (60_exceptions.md and 93_implementation_defined.md; notes/assumptions/6.md, 17.md.) -/
def Obligations.InvariantStatesStep : Prop :=
  ∀ s : State, s.Inv → (s.phase = .idle → s.InContract) → ∃ t, step s = .next t

/-- 42_transmitter.md: whenever the transmitter answers, its trace and its response are those of the document's
`transmit` loop for some sequence of line answers. -/
def Obligations.TrainIsTheTransmitCall : Prop :=
  ∀ (s : State) (left : Nat) (r : Response), s.Inv → s.phase = .respond left r → s.busy = true →
    ∃ fails, transmitCall s.txWf s.cfgPw s.cfgRc fails = some (s.trace, r)

/-- R98 with R94: from the acceptance of TRANSMIT, if the line never fails and reset is not asserted, the block
comes to a success response with the full trace, `STATUS.BUSY` = 0 and the line at the last level. (`STATUS.BUSY`
falls with the response: notes/assumptions/7.md.) (A waveform of no levels makes the guard alone:
notes/assumptions/15.md.) -/
def Obligations.TransmitRunsToSuccess : Prop :=
  ∀ (s : State) (w : Waveform), s.Undisturbed → s.fatal = false → s.InContract →
    ∃ (t : State) (n : Nat) (u : State), exec (.transmit w) s = .next t ∧ Sys2Proof.core.run n t = .next u ∧
      u.rspValid = true ∧ u.rspErr = 0#3 ∧ u.busy = false ∧ u.phase = .idle ∧
      u.trace = trainTrace w s.cfgPw s.cfgRc 0 ∧ u.line = w.getLast?.getD false ∧ sameConfig s u

/-- R105: from a presented ISSUE request, if the line never fails and reset is not asserted, the block comes to a
success response after the full train of the configured key, and the line is left LOW. (`STATUS.BUSY` falls with the
response: notes/assumptions/7.md.) -/
def Obligations.IssueRequestRunsToSuccess : Prop :=
  ∀ (s : State) (token : Token) (command : Command) (device : Nat),
    s.Undisturbed → s.phase = .idle → s.busy = false → s.fatal = false → s.InContract → s.cfgKey.length = 5 →
    s.pins.reqValid = true → decodeRequest s.pins.reqWord s.pins.reqOpd = .issue token device →
    (token = .on ∧ command = .on) ∨ (token = .off ∧ command = .off) →
    ∃ (cw : Codeword) (n : Nat) (u : State), encodeCall s.cfgKey device command = .ok cw ∧
      Sys2Proof.core.run n s = .next u ∧
      u.rspValid = true ∧ u.rspErr = 0#3 ∧ u.busy = false ∧ u.phase = .idle ∧
      u.trace = trainTrace (cw.flatMap symbolLevels) s.cfgPw s.cfgRc 0 ∧ u.line = false ∧ sameConfig s u

/-- R70, R58: from a presented ENCODE request the block comes to a success response with the packed codeword, no
access having been made and the line and the transmitter as they were. -/
def Obligations.EncodeRequestIsAnswered : Prop :=
  ∀ (s : State) (key : List Bool) (device : Nat) (command : Command),
    s.NoReset → s.phase = .idle → s.busy = false → s.fatal = false → s.pins.reqValid = true →
    decodeRequest s.pins.reqWord s.pins.reqOpd = .encode key device command →
    ∃ (cw : Codeword) (n : Nat) (u : State), encodeCall key device command = .ok cw ∧
      Sys2Proof.core.run n s = .next u ∧
      u.rspValid = true ∧ u.rspErr = 0#3 ∧ u.rspData = packCodeword cw ∧ u.busy = false ∧
      u.trace = [] ∧ u.line = s.line ∧ sameConfig s u ∧ sameTx s u

/-- R80, R58, R36: from a presented EXPAND request the block comes to a success response whose data are the operand
bit for bit, no access having been made. -/
def Obligations.ExpandRequestIsAnswered : Prop :=
  ∀ (s : State) (cw : Codeword),
    s.NoReset → s.phase = .idle → s.busy = false → s.fatal = false → s.pins.reqValid = true →
    decodeRequest s.pins.reqWord s.pins.reqOpd = .expand cw →
    ∃ (n : Nat) (u : State), Sys2Proof.core.run n s = .next u ∧ u.rspValid = true ∧ u.rspErr = 0#3 ∧
      u.rspData = s.pins.reqOpd ∧ u.busy = false ∧ u.trace = [] ∧ u.line = s.line ∧
      sameConfig s u ∧ sameTx s u
end

