-- ==== Sys2Proof/Laws/Operands.lean ====
section
/-! SUPPORT. Laws of the operand forms, the codec's overwrite loop and the expander. -/

namespace Sys2Proof.Machine

/-! ### The checks of WellFormed -/

@[simp] theorem keyFits_iff (key : List Bool) : keyFits key = true ↔ key.length = 5 :=
  decide_eq_true_iff

@[simp] theorem deviceFits_iff (device : Nat) : deviceFits device = true ↔ device < 256 :=
  decide_eq_true_iff

@[simp] theorem codewordFits_iff (cw : Codeword) : codewordFits cw = true ↔ cw.length = 16 :=
  decide_eq_true_iff

@[simp] theorem waveformFits_iff (w : Waveform) : waveformFits w = true ↔ w.length = 128 :=
  decide_eq_true_iff

@[simp] theorem unrecognised_wellFormed_iff (code : Nat) :
    (Token.unrecognised code).wellFormed = true ↔ 2 ≤ code ∧ code < 64 :=
  decide_eq_true_iff

theorem encode_wellFormed_iff (key : List Bool) (device : Nat) (command : Command) :
    (Instr.encode key device command).WellFormed ↔ key.length = 5 ∧ device < 256 := by
  simp [Instr.WellFormed, Instr.wellFormed]

theorem expand_wellFormed_iff (cw : Codeword) : (Instr.expand cw).WellFormed ↔ cw.length = 16 := by
  simp [Instr.WellFormed, Instr.wellFormed]

theorem transmit_wellFormed_iff (w : Waveform) : (Instr.transmit w).WellFormed ↔ w.length = 128 := by
  simp [Instr.WellFormed, Instr.wellFormed]

theorem issue_wellFormed_iff (token : Token) (device : Nat) :
    (Instr.issue token device).WellFormed ↔ token.wellFormed = true ∧ device < 256 := by
  simp [Instr.WellFormed, Instr.wellFormed]

/-- R142, as a proposition. -/
theorem recordValid_iff (c : StartupRecord) :
    recordValid c = true ↔ c.key.length = 5 ∧ c.pin.isSome = true ∧ c.defdev.isSome = true := by
  unfold recordValid
  rw [Bool.and_eq_true, Bool.and_eq_true, decide_eq_true_iff, and_assoc]
  rfl

/-! ### Keys and devices -/

@[simp] theorem keyEntries_length (f : BitVec 5) : (keyEntries f).length = 5 := rfl

@[simp] theorem deviceBits_length (device : Nat) : (deviceBits device).length = 5 := rfl

/-- A list of five entries, entry by entry. -/
theorem eq_five_of_length {α : Type} {l : List α} (h : l.length = 5) :
    ∃ a b c d e, l = [a, b, c, d, e] := by
  match l, h with
  | [a, b, c, d, e], _ => exact ⟨a, b, c, d, e, rfl⟩

/-- R59: only `device mod 32` matters to the five tested bits. -/
theorem deviceBit_mod (device i : Nat) (h : i < 5) : deviceBit (device % 32) i = deviceBit device i := by
  unfold deviceBit
  interval_cases i <;> congr 1 <;> simp only [eq_iff_iff] <;> omega

theorem deviceBits_mod (device : Nat) : deviceBits (device % 32) = deviceBits device := by
  simp [deviceBits, deviceBit_mod]

theorem deviceBits_add_mul (device k : Nat) : deviceBits (32 * k + device) = deviceBits device := by
  rw [← deviceBits_mod, ← deviceBits_mod device]
  congr 1
  omega

theorem bit_eq_of_deviceBit_eq {d d' i : Nat} (h : deviceBit d i = deviceBit d' i) :
    d / 2 ^ i % 2 = d' / 2 ^ i % 2 := by
  simp only [deviceBit, decide_eq_decide] at h
  rcases Nat.mod_two_eq_zero_or_one (d / 2 ^ i) with h1 | h1 <;>
    rcases Nat.mod_two_eq_zero_or_one (d' / 2 ^ i) with h2 | h2 <;> simp_all

/-- The five tested bits of two devices agree only if the devices agree mod 32. -/
theorem mod_eq_of_deviceBits_eq {d d' : Nat} (h : deviceBits d = deviceBits d') : d % 32 = d' % 32 := by
  simp only [deviceBits, List.cons.injEq] at h
  obtain ⟨h0, h1, h2, h3, h4, -⟩ := h
  replace h0 := bit_eq_of_deviceBit_eq h0
  replace h1 := bit_eq_of_deviceBit_eq h1
  replace h2 := bit_eq_of_deviceBit_eq h2
  replace h3 := bit_eq_of_deviceBit_eq h3
  replace h4 := bit_eq_of_deviceBit_eq h4
  simp only [Nat.reducePow] at h0 h1 h2 h3 h4
  omega

/-! ### The overwrite loop -/

@[simp] theorem overwriteLong_length (bs : List Bool) :
    ∀ (p : Nat) (cw : Codeword), (overwriteLong p bs cw).length = cw.length := by
  induction bs with
  | nil => intro p cw; rfl
  | cons b bs ih => intro p cw; simp only [overwriteLong, ih]; split <;> simp

/-- The overwrite loop where SHORT stands: the entry becomes LONG or SHORT as its bit says. -/
theorem overwriteLong_cons {p : Nat} {b : Bool} {bs : List Bool} {cw : Codeword}
    (h : cw[p]? = some Config.short) :
    overwriteLong p (b :: bs) cw =
      overwriteLong (p + 1) bs (cw.set p (if b then Config.long else Config.short)) := by
  cases b
  · obtain ⟨hp, e⟩ := List.getElem?_eq_some_iff.mp h
    simp [overwriteLong, ← e]
  · simp [overwriteLong]

@[simp] theorem baseCodeword_length : baseCodeword.length = 16 := rfl

@[simp] theorem buildCodeword_length (key : List Bool) (device : Nat) (command : Command) :
    (buildCodeword key device command).length = 16 := by
  cases command <;> simp [buildCodeword, overwriteCommand]

/-- The whole codeword of five key entries, written out. -/
theorem buildCodeword_five (a b c d e : Bool) (device : Nat) (command : Command) :
    buildCodeword [a, b, c, d, e] device command =
      ([a, b, c, d, e] ++ deviceBits device).map (fun x => if x then Config.long else Config.short) ++
      (if command = .on then [Config.long, Config.short] else [Config.short, Config.long]) ++
      Config.trailer := by
  have keyPart : overwriteLong 0 [a, b, c, d, e] baseCodeword =
      [a, b, c, d, e].map (fun x => if x then Config.long else Config.short) ++
        List.replicate 6 Config.short ++ [Config.long] ++ Config.trailer := by
    rw [overwriteLong_cons rfl, overwriteLong_cons rfl, overwriteLong_cons rfl, overwriteLong_cons rfl,
      overwriteLong_cons rfl]
    rfl
  unfold buildCodeword deviceBits
  rw [keyPart, overwriteLong_cons rfl, overwriteLong_cons rfl, overwriteLong_cons rfl,
    overwriteLong_cons rfl, overwriteLong_cons rfl]
  cases command <;> rfl

/-- `encode` succeeds exactly on keys of five entries (R70). -/
theorem encodeCall_eq_ok {key : List Bool} (h : key.length = 5) (device : Nat) (command : Command) :
    encodeCall key device command = .ok (buildCodeword key device command) := by
  simp [encodeCall, Config.keyLen, h]

/-! ### Levels and packings -/

@[simp] theorem symbolLevels_length (s : Symbol) : (symbolLevels s).length = 8 := rfl

@[simp] theorem expandLevels_length (cw : Codeword) : (expandLevels cw).length = 8 * cw.length := by
  induction cw with
  | nil => rfl
  | cons s cw ih => simp only [expandLevels, List.flatMap_cons, List.length_append, symbolLevels_length,
      List.length_cons] at ih ⊢; omega

/-- `expand` succeeds exactly on codewords of 16 symbols (R80). -/
theorem expandCall_eq_ok {cw : Codeword} (h : cw.length = 16) : expandCall cw = .ok (expandLevels cw) := by
  simp [expandCall, Config.cwLen, h]

@[simp] theorem unpackCodeword_length (p : Bus) : (unpackCodeword p).length = 16 := by
  simp [unpackCodeword, Config.cwLen]

@[simp] theorem unpackWaveform_length (q : Bus) : (unpackWaveform q).length = 128 := by
  simp [unpackWaveform, Config.wfLen]

/-- The number of a symbol is read off its levels, most significant bit first. -/
theorem foldl_symbolLevels (acc : Nat) (s : Symbol) :
    (symbolLevels s).foldl (fun a b => 2 * a + b.toNat) acc = 256 * acc + s.toNat := by
  have h : (symbolLevels s).foldl (fun a b => 2 * a + b.toNat) 0 = s.toNat := by
    revert s; decide
  simp only [symbolLevels, List.foldl_cons, List.foldl_nil] at h ⊢
  omega

/-- R36: reading a codeword symbol by symbol or level by level gives the same number. -/
theorem foldl_expandLevels (cw : Codeword) :
    ∀ acc : Nat, (expandLevels cw).foldl (fun a b => 2 * a + b.toNat) acc =
      cw.foldl (fun a s => 256 * a + s.toNat) acc := by
  induction cw with
  | nil => intro acc; rfl
  | cons s cw ih =>
    intro acc
    rw [List.foldl_cons, ← ih, ← foldl_symbolLevels, ← List.foldl_append]
    rfl

/-- R33: level 8s + j of the expanded codeword is bit 7 - j of symbol s. -/
theorem expandLevels_getElem? : ∀ (cw : Codeword) (s j : Nat), s < cw.length → j < 8 →
    ∃ sym, cw[s]? = some sym ∧ (expandLevels cw)[8 * s + j]? = some (sym.getLsbD (7 - j)) := by
  intro cw
  unfold expandLevels
  induction cw with
  | nil => intro s j h; simp at h
  | cons x cw ih =>
    intro s j hs hj
    cases s with
    | zero =>
      refine ⟨x, rfl, ?_⟩
      rw [List.flatMap_cons, List.getElem?_append_left (by simpa using hj)]
      interval_cases j <;> rfl
    | succ s =>
      obtain ⟨y, h1, h2⟩ := ih s j (by simpa using hs) hj
      refine ⟨y, by simpa using h1, ?_⟩
      rw [List.flatMap_cons, List.getElem?_append_right (by simp; omega), ← h2]
      congr 1
      simp
      omega

/-- The number of a list of levels, the levels before it shifted up. -/
theorem foldl_levels (w : Waveform) :
    ∀ acc : Nat, w.foldl (fun a b => 2 * a + b.toNat) acc =
      acc * 2 ^ w.length + w.foldl (fun a b => 2 * a + b.toNat) 0 := by
  induction w with
  | nil => intro acc; simp
  | cons b w ih =>
    intro acc
    rw [List.foldl_cons, ih, List.foldl_cons, ih (2 * 0 + _), List.length_cons, pow_succ]
    ring

theorem foldl_levels_lt (w : Waveform) :
    w.foldl (fun (a : Nat) (b : Bool) => 2 * a + b.toNat) 0 < 2 ^ w.length := by
  induction w with
  | nil => simp
  | cons b w ih =>
    rw [List.foldl_cons, foldl_levels, List.length_cons, pow_succ]
    have : b.toNat ≤ 1 := Bool.toNat_le b
    nlinarith [Nat.pos_of_ne_zero (pow_ne_zero w.length (two_ne_zero))]

/-- Level n of a list of levels is a bit of its number, the first level the highest. -/
theorem testBit_foldl_levels (w : Waveform) : ∀ n, n < w.length →
    w[n]? = some ((w.foldl (fun (a : Nat) (b : Bool) => 2 * a + b.toNat) 0).testBit (w.length - 1 - n)) := by
  induction w with
  | nil => intro n h; simp at h
  | cons b w ih =>
    intro n hn
    rw [List.foldl_cons, foldl_levels]
    rw [show (2 * 0 + b.toNat) * 2 ^ w.length = 2 ^ w.length * b.toNat by ring,
      Nat.testBit_two_pow_mul_add _ (foldl_levels_lt w)]
    cases n with
    | zero => cases b <;> simp
    | succ n =>
      rw [List.length_cons] at hn
      rw [if_pos (by simp; omega), List.getElem?_cons_succ, ih n (by omega)]
      congr 2
      simp
      omega

/-! ### The operation field -/

/-- R62: masking a word leaves its two highest bits. -/
theorem and_opMask {word : RequestWord} {b : BitVec 2} (hb : word.extractLsb' 14 2 = b) :
    word &&& opMask = b.zeroExtend 16 <<< 14 := by
  subst hb
  unfold opMask
  ext i hi
  interval_cases i <;> simp

/-- R56, R62: the row a word selects, by its two highest bits. -/
theorem wordOp_eq (word : RequestWord) :
    (word.extractLsb' 14 2 = 0#2 → wordOp word = .encode) ∧
    (word.extractLsb' 14 2 = 1#2 → wordOp word = .expand) ∧
    (word.extractLsb' 14 2 = 2#2 → wordOp word = .transmit) ∧
    (word.extractLsb' 14 2 = 3#2 → wordOp word = .issue) := by
  refine ⟨?_, ?_, ?_, ?_⟩ <;> intro h <;> simp [wordOp, and_opMask h, opMatch]

theorem bitsToNat_lt : ∀ bs : List Bool, bitsToNat bs < 2 ^ bs.length := by
  intro bs
  induction bs with
  | nil => simp [bitsToNat]
  | cons b bs ih =>
    have : b.toNat ≤ 1 := Bool.toNat_le b
    simp only [bitsToNat, List.length_cons, pow_succ]
    omega

end Sys2Proof.Machine
end

