-- ==== Sys2Proof/Laws/PerInstr.lean ====
section
/-! SUPPORT. A law of every operation as syntax: the encoder puts it in its own row of the operation map (spec 30 R62). -/

namespace Sys2Proof.Laws.OpField

/-- The encoded word masked with 0xC000 is the `match` of the operation's row. -/
def Statement (i : Instr) : Prop := encodeWord i &&& opMask = opMatch i.op

theorem encode (key : List Bool) (device : Nat) (command : Command) :
    Statement (.encode key device command) := by
  have hc : (Machine.commandBit command).toNat ≤ 1 := Bool.toNat_le _
  have h : (encodeWord (.encode key device command)).extractLsb' 14 2 = 0#2 := by
    apply BitVec.eq_of_toNat_eq
    rw [BitVec.extractLsb'_toNat, Nat.shiftRight_eq_div_pow, encodeWord, BitVec.toNat_ofNat]
    simp
    omega
  exact Machine.and_opMask h

theorem expand (codeword : Codeword) : Statement (.expand codeword) := by
  show (0x4000#16 : RequestWord) &&& opMask = opMatch .expand
  decide

theorem transmit (waveform : Waveform) : Statement (.transmit waveform) := by
  show (0x8000#16 : RequestWord) &&& opMask = opMatch .transmit
  decide

theorem issue (token : Token) (device : Nat) : Statement (.issue token device) := by
  have h : (encodeWord (.issue token device)).extractLsb' 14 2 = 3#2 := by
    apply BitVec.eq_of_toNat_eq
    rw [BitVec.extractLsb'_toNat, Nat.shiftRight_eq_div_pow, encodeWord, BitVec.toNat_ofNat]
    simp
    omega
  exact Machine.and_opMask h

end Sys2Proof.Laws.OpField
end

