-- ==== Sys2Proof/Laws/State.lean ====
section
/-! SUPPORT. Laws of State: for each shared operation, what it makes of every field. Later proofs cite these and
unfold no record update. -/

namespace Sys2Proof.Machine

variable (s : State)

/-! ### `clearStrobes` -/

@[simp] theorem State.clearStrobes_cfgKey : (s.clearStrobes).cfgKey = s.cfgKey := rfl

@[simp] theorem State.clearStrobes_cfgPin : (s.clearStrobes).cfgPin = s.cfgPin := rfl

@[simp] theorem State.clearStrobes_cfgDefdev : (s.clearStrobes).cfgDefdev = s.cfgDefdev := rfl

@[simp] theorem State.clearStrobes_cfgPw : (s.clearStrobes).cfgPw = s.cfgPw := rfl

@[simp] theorem State.clearStrobes_cfgRc : (s.clearStrobes).cfgRc = s.cfgRc := rfl

@[simp] theorem State.clearStrobes_fatal : (s.clearStrobes).fatal = s.fatal := rfl

@[simp] theorem State.clearStrobes_busy : (s.clearStrobes).busy = s.busy := rfl

@[simp] theorem State.clearStrobes_txWf : (s.clearStrobes).txWf = s.txWf := rfl

@[simp] theorem State.clearStrobes_txR : (s.clearStrobes).txR = s.txR := rfl

@[simp] theorem State.clearStrobes_txI : (s.clearStrobes).txI = s.txI := rfl

@[simp] theorem State.clearStrobes_txH : (s.clearStrobes).txH = s.txH := rfl

@[simp] theorem State.clearStrobes_line : (s.clearStrobes).line = s.line := rfl

@[simp] theorem State.clearStrobes_phase : (s.clearStrobes).phase = s.phase := rfl

@[simp] theorem State.clearStrobes_rspValid : (s.clearStrobes).rspValid = false := rfl

@[simp] theorem State.clearStrobes_rspErr : (s.clearStrobes).rspErr = s.rspErr := rfl

@[simp] theorem State.clearStrobes_rspData : (s.clearStrobes).rspData = s.rspData := rfl

@[simp] theorem State.clearStrobes_lineOut : (s.clearStrobes).lineOut = s.lineOut := rfl

@[simp] theorem State.clearStrobes_lineSet : (s.clearStrobes).lineSet = false := rfl

@[simp] theorem State.clearStrobes_pins : (s.clearStrobes).pins = s.pins := rfl

@[simp] theorem State.clearStrobes_inbox : (s.clearStrobes).inbox = s.inbox := rfl

@[simp] theorem State.clearStrobes_trace : (s.clearStrobes).trace = s.trace := rfl

@[simp] theorem State.clearStrobes_draws : (s.clearStrobes).draws = s.draws := rfl

/-! ### `takePins` -/

@[simp] theorem State.takePins_cfgKey : (s.takePins).cfgKey = s.cfgKey := rfl

@[simp] theorem State.takePins_cfgPin : (s.takePins).cfgPin = s.cfgPin := rfl

@[simp] theorem State.takePins_cfgDefdev : (s.takePins).cfgDefdev = s.cfgDefdev := rfl

@[simp] theorem State.takePins_cfgPw : (s.takePins).cfgPw = s.cfgPw := rfl

@[simp] theorem State.takePins_cfgRc : (s.takePins).cfgRc = s.cfgRc := rfl

@[simp] theorem State.takePins_fatal : (s.takePins).fatal = s.fatal := rfl

@[simp] theorem State.takePins_busy : (s.takePins).busy = s.busy := rfl

@[simp] theorem State.takePins_txWf : (s.takePins).txWf = s.txWf := rfl

@[simp] theorem State.takePins_txR : (s.takePins).txR = s.txR := rfl

@[simp] theorem State.takePins_txI : (s.takePins).txI = s.txI := rfl

@[simp] theorem State.takePins_txH : (s.takePins).txH = s.txH := rfl

@[simp] theorem State.takePins_line : (s.takePins).line = s.line := rfl

@[simp] theorem State.takePins_phase : (s.takePins).phase = s.phase := rfl

@[simp] theorem State.takePins_rspValid : (s.takePins).rspValid = s.rspValid := rfl

@[simp] theorem State.takePins_rspErr : (s.takePins).rspErr = s.rspErr := rfl

@[simp] theorem State.takePins_rspData : (s.takePins).rspData = s.rspData := rfl

@[simp] theorem State.takePins_lineOut : (s.takePins).lineOut = s.lineOut := rfl

@[simp] theorem State.takePins_lineSet : (s.takePins).lineSet = s.lineSet := rfl

@[simp] theorem State.takePins_pins : (s.takePins).pins = s.inbox.headD s.pins := rfl

@[simp] theorem State.takePins_inbox : (s.takePins).inbox = s.inbox.tail := rfl

@[simp] theorem State.takePins_trace : (s.takePins).trace = s.trace := rfl

@[simp] theorem State.takePins_draws : (s.takePins).draws = s.draws := rfl

/-! ### `finish` -/

@[simp] theorem State.finish_cfgKey (r : Response) : (s.finish r).cfgKey = s.cfgKey := rfl

@[simp] theorem State.finish_cfgPin (r : Response) : (s.finish r).cfgPin = s.cfgPin := rfl

@[simp] theorem State.finish_cfgDefdev (r : Response) : (s.finish r).cfgDefdev = s.cfgDefdev := rfl

@[simp] theorem State.finish_cfgPw (r : Response) : (s.finish r).cfgPw = s.cfgPw := rfl

@[simp] theorem State.finish_cfgRc (r : Response) : (s.finish r).cfgRc = s.cfgRc := rfl

@[simp] theorem State.finish_fatal (r : Response) : (s.finish r).fatal = s.fatal := rfl

@[simp] theorem State.finish_busy (r : Response) : (s.finish r).busy = s.busy := rfl

@[simp] theorem State.finish_txWf (r : Response) : (s.finish r).txWf = s.txWf := rfl

@[simp] theorem State.finish_txR (r : Response) : (s.finish r).txR = s.txR := rfl

@[simp] theorem State.finish_txI (r : Response) : (s.finish r).txI = s.txI := rfl

@[simp] theorem State.finish_txH (r : Response) : (s.finish r).txH = s.txH := rfl

@[simp] theorem State.finish_line (r : Response) : (s.finish r).line = s.line := rfl

@[simp] theorem State.finish_phase (r : Response) : (s.finish r).phase = .respond (Config.freeDelay s.draws) r := rfl

@[simp] theorem State.finish_rspValid (r : Response) : (s.finish r).rspValid = s.rspValid := rfl

@[simp] theorem State.finish_rspErr (r : Response) : (s.finish r).rspErr = s.rspErr := rfl

@[simp] theorem State.finish_rspData (r : Response) : (s.finish r).rspData = s.rspData := rfl

@[simp] theorem State.finish_lineOut (r : Response) : (s.finish r).lineOut = s.lineOut := rfl

@[simp] theorem State.finish_lineSet (r : Response) : (s.finish r).lineSet = s.lineSet := rfl

@[simp] theorem State.finish_pins (r : Response) : (s.finish r).pins = s.pins := rfl

@[simp] theorem State.finish_inbox (r : Response) : (s.finish r).inbox = s.inbox := rfl

@[simp] theorem State.finish_trace (r : Response) : (s.finish r).trace = s.trace := rfl

@[simp] theorem State.finish_draws (r : Response) : (s.finish r).draws = s.draws + 1 := rfl

/-! ### `answer` -/

@[simp] theorem State.answer_cfgKey (r : Response) : (s.answer r).cfgKey = s.cfgKey := rfl

@[simp] theorem State.answer_cfgPin (r : Response) : (s.answer r).cfgPin = s.cfgPin := rfl

@[simp] theorem State.answer_cfgDefdev (r : Response) : (s.answer r).cfgDefdev = s.cfgDefdev := rfl

@[simp] theorem State.answer_cfgPw (r : Response) : (s.answer r).cfgPw = s.cfgPw := rfl

@[simp] theorem State.answer_cfgRc (r : Response) : (s.answer r).cfgRc = s.cfgRc := rfl

@[simp] theorem State.answer_fatal (r : Response) : (s.answer r).fatal = s.fatal := rfl

@[simp] theorem State.answer_busy (r : Response) : (s.answer r).busy = s.busy := rfl

@[simp] theorem State.answer_txWf (r : Response) : (s.answer r).txWf = s.txWf := rfl

@[simp] theorem State.answer_txR (r : Response) : (s.answer r).txR = s.txR := rfl

@[simp] theorem State.answer_txI (r : Response) : (s.answer r).txI = s.txI := rfl

@[simp] theorem State.answer_txH (r : Response) : (s.answer r).txH = s.txH := rfl

@[simp] theorem State.answer_line (r : Response) : (s.answer r).line = s.line := rfl

@[simp] theorem State.answer_phase (r : Response) : (s.answer r).phase = .respond (Config.freeDelay s.draws) r := rfl

@[simp] theorem State.answer_rspValid (r : Response) : (s.answer r).rspValid = s.rspValid := rfl

@[simp] theorem State.answer_rspErr (r : Response) : (s.answer r).rspErr = s.rspErr := rfl

@[simp] theorem State.answer_rspData (r : Response) : (s.answer r).rspData = s.rspData := rfl

@[simp] theorem State.answer_lineOut (r : Response) : (s.answer r).lineOut = s.lineOut := rfl

@[simp] theorem State.answer_lineSet (r : Response) : (s.answer r).lineSet = s.lineSet := rfl

@[simp] theorem State.answer_pins (r : Response) : (s.answer r).pins = s.pins := rfl

@[simp] theorem State.answer_inbox (r : Response) : (s.answer r).inbox = s.inbox := rfl

@[simp] theorem State.answer_trace (r : Response) : (s.answer r).trace = [] := rfl

@[simp] theorem State.answer_draws (r : Response) : (s.answer r).draws = s.draws + 1 := rfl

/-! ### `raise` -/

@[simp] theorem State.raise_cfgKey (e : Error) : (s.raise e).cfgKey = s.cfgKey := rfl

@[simp] theorem State.raise_cfgPin (e : Error) : (s.raise e).cfgPin = s.cfgPin := rfl

@[simp] theorem State.raise_cfgDefdev (e : Error) : (s.raise e).cfgDefdev = s.cfgDefdev := rfl

@[simp] theorem State.raise_cfgPw (e : Error) : (s.raise e).cfgPw = s.cfgPw := rfl

@[simp] theorem State.raise_cfgRc (e : Error) : (s.raise e).cfgRc = s.cfgRc := rfl

@[simp] theorem State.raise_fatal (e : Error) : (s.raise e).fatal = s.fatal := rfl

@[simp] theorem State.raise_busy (e : Error) : (s.raise e).busy = s.busy := rfl

@[simp] theorem State.raise_txWf (e : Error) : (s.raise e).txWf = s.txWf := rfl

@[simp] theorem State.raise_txR (e : Error) : (s.raise e).txR = s.txR := rfl

@[simp] theorem State.raise_txI (e : Error) : (s.raise e).txI = s.txI := rfl

@[simp] theorem State.raise_txH (e : Error) : (s.raise e).txH = s.txH := rfl

@[simp] theorem State.raise_line (e : Error) : (s.raise e).line = s.line := rfl

@[simp] theorem State.raise_phase (e : Error) : (s.raise e).phase = .respond (Config.freeDelay s.draws) (.error e) := rfl

@[simp] theorem State.raise_rspValid (e : Error) : (s.raise e).rspValid = s.rspValid := rfl

@[simp] theorem State.raise_rspErr (e : Error) : (s.raise e).rspErr = s.rspErr := rfl

@[simp] theorem State.raise_rspData (e : Error) : (s.raise e).rspData = s.rspData := rfl

@[simp] theorem State.raise_lineOut (e : Error) : (s.raise e).lineOut = s.lineOut := rfl

@[simp] theorem State.raise_lineSet (e : Error) : (s.raise e).lineSet = s.lineSet := rfl

@[simp] theorem State.raise_pins (e : Error) : (s.raise e).pins = s.pins := rfl

@[simp] theorem State.raise_inbox (e : Error) : (s.raise e).inbox = s.inbox := rfl

@[simp] theorem State.raise_trace (e : Error) : (s.raise e).trace = [] := rfl

@[simp] theorem State.raise_draws (e : Error) : (s.raise e).draws = s.draws + 1 := rfl

/-! ### `giveResponse` -/

@[simp] theorem State.giveResponse_cfgKey (r : Response) : (s.giveResponse r).cfgKey = s.cfgKey := rfl

@[simp] theorem State.giveResponse_cfgPin (r : Response) : (s.giveResponse r).cfgPin = s.cfgPin := rfl

@[simp] theorem State.giveResponse_cfgDefdev (r : Response) : (s.giveResponse r).cfgDefdev = s.cfgDefdev := rfl

@[simp] theorem State.giveResponse_cfgPw (r : Response) : (s.giveResponse r).cfgPw = s.cfgPw := rfl

@[simp] theorem State.giveResponse_cfgRc (r : Response) : (s.giveResponse r).cfgRc = s.cfgRc := rfl

@[simp] theorem State.giveResponse_fatal (r : Response) : (s.giveResponse r).fatal = s.fatal := rfl

@[simp] theorem State.giveResponse_busy (r : Response) : (s.giveResponse r).busy = false := rfl

@[simp] theorem State.giveResponse_txWf (r : Response) : (s.giveResponse r).txWf = s.txWf := rfl

@[simp] theorem State.giveResponse_txR (r : Response) : (s.giveResponse r).txR = s.txR := rfl

@[simp] theorem State.giveResponse_txI (r : Response) : (s.giveResponse r).txI = s.txI := rfl

@[simp] theorem State.giveResponse_txH (r : Response) : (s.giveResponse r).txH = s.txH := rfl

@[simp] theorem State.giveResponse_line (r : Response) : (s.giveResponse r).line = s.line := rfl

@[simp] theorem State.giveResponse_phase (r : Response) : (s.giveResponse r).phase = .idle := rfl

@[simp] theorem State.giveResponse_rspValid (r : Response) : (s.giveResponse r).rspValid = true := rfl

@[simp] theorem State.giveResponse_rspErr (r : Response) : (s.giveResponse r).rspErr = responseCode r := rfl

@[simp] theorem State.giveResponse_rspData (r : Response) : (s.giveResponse r).rspData = (responseData r).getD (Config.freeBus s.draws) := rfl

@[simp] theorem State.giveResponse_lineOut (r : Response) : (s.giveResponse r).lineOut = s.lineOut := rfl

@[simp] theorem State.giveResponse_lineSet (r : Response) : (s.giveResponse r).lineSet = s.lineSet := rfl

@[simp] theorem State.giveResponse_pins (r : Response) : (s.giveResponse r).pins = s.pins := rfl

@[simp] theorem State.giveResponse_inbox (r : Response) : (s.giveResponse r).inbox = s.inbox := rfl

@[simp] theorem State.giveResponse_trace (r : Response) : (s.giveResponse r).trace = s.trace := rfl

@[simp] theorem State.giveResponse_draws (r : Response) : (s.giveResponse r).draws = s.draws + 1 := rfl

/-! ### `beginTrain` -/

@[simp] theorem State.beginTrain_cfgKey (w : Waveform) : (s.beginTrain w).cfgKey = s.cfgKey := rfl

@[simp] theorem State.beginTrain_cfgPin (w : Waveform) : (s.beginTrain w).cfgPin = s.cfgPin := rfl

@[simp] theorem State.beginTrain_cfgDefdev (w : Waveform) : (s.beginTrain w).cfgDefdev = s.cfgDefdev := rfl

@[simp] theorem State.beginTrain_cfgPw (w : Waveform) : (s.beginTrain w).cfgPw = s.cfgPw := rfl

@[simp] theorem State.beginTrain_cfgRc (w : Waveform) : (s.beginTrain w).cfgRc = s.cfgRc := rfl

@[simp] theorem State.beginTrain_fatal (w : Waveform) : (s.beginTrain w).fatal = s.fatal := rfl

@[simp] theorem State.beginTrain_busy (w : Waveform) : (s.beginTrain w).busy = true := rfl

@[simp] theorem State.beginTrain_txWf (w : Waveform) : (s.beginTrain w).txWf = w := rfl

@[simp] theorem State.beginTrain_txR (w : Waveform) : (s.beginTrain w).txR = 0 := rfl

@[simp] theorem State.beginTrain_txI (w : Waveform) : (s.beginTrain w).txI = 0 := rfl

@[simp] theorem State.beginTrain_txH (w : Waveform) : (s.beginTrain w).txH = s.txH := rfl

@[simp] theorem State.beginTrain_line (w : Waveform) : (s.beginTrain w).line = s.line := rfl

@[simp] theorem State.beginTrain_phase (w : Waveform) : (s.beginTrain w).phase = .guard (Config.freeDelay s.draws) := rfl

@[simp] theorem State.beginTrain_rspValid (w : Waveform) : (s.beginTrain w).rspValid = s.rspValid := rfl

@[simp] theorem State.beginTrain_rspErr (w : Waveform) : (s.beginTrain w).rspErr = s.rspErr := rfl

@[simp] theorem State.beginTrain_rspData (w : Waveform) : (s.beginTrain w).rspData = s.rspData := rfl

@[simp] theorem State.beginTrain_lineOut (w : Waveform) : (s.beginTrain w).lineOut = s.lineOut := rfl

@[simp] theorem State.beginTrain_lineSet (w : Waveform) : (s.beginTrain w).lineSet = s.lineSet := rfl

@[simp] theorem State.beginTrain_pins (w : Waveform) : (s.beginTrain w).pins = s.pins := rfl

@[simp] theorem State.beginTrain_inbox (w : Waveform) : (s.beginTrain w).inbox = s.inbox := rfl

@[simp] theorem State.beginTrain_trace (w : Waveform) : (s.beginTrain w).trace = [] := rfl

@[simp] theorem State.beginTrain_draws (w : Waveform) : (s.beginTrain w).draws = s.draws + 1 := rfl

/-! ### `goTo` -/

@[simp] theorem State.goTo_cfgKey (p : Phase) : (s.goTo p).cfgKey = s.cfgKey := rfl

@[simp] theorem State.goTo_cfgPin (p : Phase) : (s.goTo p).cfgPin = s.cfgPin := rfl

@[simp] theorem State.goTo_cfgDefdev (p : Phase) : (s.goTo p).cfgDefdev = s.cfgDefdev := rfl

@[simp] theorem State.goTo_cfgPw (p : Phase) : (s.goTo p).cfgPw = s.cfgPw := rfl

@[simp] theorem State.goTo_cfgRc (p : Phase) : (s.goTo p).cfgRc = s.cfgRc := rfl

@[simp] theorem State.goTo_fatal (p : Phase) : (s.goTo p).fatal = s.fatal := rfl

@[simp] theorem State.goTo_busy (p : Phase) : (s.goTo p).busy = s.busy := rfl

@[simp] theorem State.goTo_txWf (p : Phase) : (s.goTo p).txWf = s.txWf := rfl

@[simp] theorem State.goTo_txR (p : Phase) : (s.goTo p).txR = s.txR := rfl

@[simp] theorem State.goTo_txI (p : Phase) : (s.goTo p).txI = s.txI := rfl

@[simp] theorem State.goTo_txH (p : Phase) : (s.goTo p).txH = s.txH := rfl

@[simp] theorem State.goTo_line (p : Phase) : (s.goTo p).line = s.line := rfl

@[simp] theorem State.goTo_phase (p : Phase) : (s.goTo p).phase = p := rfl

@[simp] theorem State.goTo_rspValid (p : Phase) : (s.goTo p).rspValid = s.rspValid := rfl

@[simp] theorem State.goTo_rspErr (p : Phase) : (s.goTo p).rspErr = s.rspErr := rfl

@[simp] theorem State.goTo_rspData (p : Phase) : (s.goTo p).rspData = s.rspData := rfl

@[simp] theorem State.goTo_lineOut (p : Phase) : (s.goTo p).lineOut = s.lineOut := rfl

@[simp] theorem State.goTo_lineSet (p : Phase) : (s.goTo p).lineSet = s.lineSet := rfl

@[simp] theorem State.goTo_pins (p : Phase) : (s.goTo p).pins = s.pins := rfl

@[simp] theorem State.goTo_inbox (p : Phase) : (s.goTo p).inbox = s.inbox := rfl

@[simp] theorem State.goTo_trace (p : Phase) : (s.goTo p).trace = s.trace := rfl

@[simp] theorem State.goTo_draws (p : Phase) : (s.goTo p).draws = s.draws := rfl

/-! ### `beginHold` -/

@[simp] theorem State.beginHold_cfgKey : (s.beginHold).cfgKey = s.cfgKey := rfl

@[simp] theorem State.beginHold_cfgPin : (s.beginHold).cfgPin = s.cfgPin := rfl

@[simp] theorem State.beginHold_cfgDefdev : (s.beginHold).cfgDefdev = s.cfgDefdev := rfl

@[simp] theorem State.beginHold_cfgPw : (s.beginHold).cfgPw = s.cfgPw := rfl

@[simp] theorem State.beginHold_cfgRc : (s.beginHold).cfgRc = s.cfgRc := rfl

@[simp] theorem State.beginHold_fatal : (s.beginHold).fatal = s.fatal := rfl

@[simp] theorem State.beginHold_busy : (s.beginHold).busy = s.busy := rfl

@[simp] theorem State.beginHold_txWf : (s.beginHold).txWf = s.txWf := rfl

@[simp] theorem State.beginHold_txR : (s.beginHold).txR = s.txR := rfl

@[simp] theorem State.beginHold_txI : (s.beginHold).txI = s.txI := rfl

@[simp] theorem State.beginHold_txH : (s.beginHold).txH = s.cfgPw := rfl

@[simp] theorem State.beginHold_line : (s.beginHold).line = s.line := rfl

@[simp] theorem State.beginHold_phase : (s.beginHold).phase = .hold := rfl

@[simp] theorem State.beginHold_rspValid : (s.beginHold).rspValid = s.rspValid := rfl

@[simp] theorem State.beginHold_rspErr : (s.beginHold).rspErr = s.rspErr := rfl

@[simp] theorem State.beginHold_rspData : (s.beginHold).rspData = s.rspData := rfl

@[simp] theorem State.beginHold_lineOut : (s.beginHold).lineOut = s.lineOut := rfl

@[simp] theorem State.beginHold_lineSet : (s.beginHold).lineSet = s.lineSet := rfl

@[simp] theorem State.beginHold_pins : (s.beginHold).pins = s.pins := rfl

@[simp] theorem State.beginHold_inbox : (s.beginHold).inbox = s.inbox := rfl

@[simp] theorem State.beginHold_trace : (s.beginHold).trace = s.trace := rfl

@[simp] theorem State.beginHold_draws : (s.beginHold).draws = s.draws := rfl

/-! ### `countDown` -/

@[simp] theorem State.countDown_cfgKey : (s.countDown).cfgKey = s.cfgKey := rfl

@[simp] theorem State.countDown_cfgPin : (s.countDown).cfgPin = s.cfgPin := rfl

@[simp] theorem State.countDown_cfgDefdev : (s.countDown).cfgDefdev = s.cfgDefdev := rfl

@[simp] theorem State.countDown_cfgPw : (s.countDown).cfgPw = s.cfgPw := rfl

@[simp] theorem State.countDown_cfgRc : (s.countDown).cfgRc = s.cfgRc := rfl

@[simp] theorem State.countDown_fatal : (s.countDown).fatal = s.fatal := rfl

@[simp] theorem State.countDown_busy : (s.countDown).busy = s.busy := rfl

@[simp] theorem State.countDown_txWf : (s.countDown).txWf = s.txWf := rfl

@[simp] theorem State.countDown_txR : (s.countDown).txR = s.txR := rfl

@[simp] theorem State.countDown_txI : (s.countDown).txI = s.txI := rfl

@[simp] theorem State.countDown_txH : (s.countDown).txH = s.txH - 1 := rfl

@[simp] theorem State.countDown_line : (s.countDown).line = s.line := rfl

@[simp] theorem State.countDown_phase : (s.countDown).phase = s.phase := rfl

@[simp] theorem State.countDown_rspValid : (s.countDown).rspValid = s.rspValid := rfl

@[simp] theorem State.countDown_rspErr : (s.countDown).rspErr = s.rspErr := rfl

@[simp] theorem State.countDown_rspData : (s.countDown).rspData = s.rspData := rfl

@[simp] theorem State.countDown_lineOut : (s.countDown).lineOut = s.lineOut := rfl

@[simp] theorem State.countDown_lineSet : (s.countDown).lineSet = s.lineSet := rfl

@[simp] theorem State.countDown_pins : (s.countDown).pins = s.pins := rfl

@[simp] theorem State.countDown_inbox : (s.countDown).inbox = s.inbox := rfl

@[simp] theorem State.countDown_trace : (s.countDown).trace = s.trace := rfl

@[simp] theorem State.countDown_draws : (s.countDown).draws = s.draws := rfl

/-! ### `endHold` -/

@[simp] theorem State.endHold_cfgKey : (s.endHold).cfgKey = s.cfgKey := rfl

@[simp] theorem State.endHold_cfgPin : (s.endHold).cfgPin = s.cfgPin := rfl

@[simp] theorem State.endHold_cfgDefdev : (s.endHold).cfgDefdev = s.cfgDefdev := rfl

@[simp] theorem State.endHold_cfgPw : (s.endHold).cfgPw = s.cfgPw := rfl

@[simp] theorem State.endHold_cfgRc : (s.endHold).cfgRc = s.cfgRc := rfl

@[simp] theorem State.endHold_fatal : (s.endHold).fatal = s.fatal := rfl

@[simp] theorem State.endHold_busy : (s.endHold).busy = s.busy := rfl

@[simp] theorem State.endHold_txWf : (s.endHold).txWf = s.txWf := rfl

@[simp] theorem State.endHold_txR : (s.endHold).txR = s.txR := rfl

@[simp] theorem State.endHold_txI : (s.endHold).txI = s.txI := rfl

@[simp] theorem State.endHold_txH : (s.endHold).txH = 0 := rfl

@[simp] theorem State.endHold_line : (s.endHold).line = s.line := rfl

@[simp] theorem State.endHold_phase : (s.endHold).phase = s.phase := rfl

@[simp] theorem State.endHold_rspValid : (s.endHold).rspValid = s.rspValid := rfl

@[simp] theorem State.endHold_rspErr : (s.endHold).rspErr = s.rspErr := rfl

@[simp] theorem State.endHold_rspData : (s.endHold).rspData = s.rspData := rfl

@[simp] theorem State.endHold_lineOut : (s.endHold).lineOut = s.lineOut := rfl

@[simp] theorem State.endHold_lineSet : (s.endHold).lineSet = s.lineSet := rfl

@[simp] theorem State.endHold_pins : (s.endHold).pins = s.pins := rfl

@[simp] theorem State.endHold_inbox : (s.endHold).inbox = s.inbox := rfl

@[simp] theorem State.endHold_trace : (s.endHold).trace = s.trace ++ [.hold s.cfgPw] := rfl

@[simp] theorem State.endHold_draws : (s.endHold).draws = s.draws := rfl

/-! ### `moveTo` -/

@[simp] theorem State.moveTo_cfgKey (r i : Nat) : (s.moveTo r i).cfgKey = s.cfgKey := rfl

@[simp] theorem State.moveTo_cfgPin (r i : Nat) : (s.moveTo r i).cfgPin = s.cfgPin := rfl

@[simp] theorem State.moveTo_cfgDefdev (r i : Nat) : (s.moveTo r i).cfgDefdev = s.cfgDefdev := rfl

@[simp] theorem State.moveTo_cfgPw (r i : Nat) : (s.moveTo r i).cfgPw = s.cfgPw := rfl

@[simp] theorem State.moveTo_cfgRc (r i : Nat) : (s.moveTo r i).cfgRc = s.cfgRc := rfl

@[simp] theorem State.moveTo_fatal (r i : Nat) : (s.moveTo r i).fatal = s.fatal := rfl

@[simp] theorem State.moveTo_busy (r i : Nat) : (s.moveTo r i).busy = s.busy := rfl

@[simp] theorem State.moveTo_txWf (r i : Nat) : (s.moveTo r i).txWf = s.txWf := rfl

@[simp] theorem State.moveTo_txR (r i : Nat) : (s.moveTo r i).txR = r := rfl

@[simp] theorem State.moveTo_txI (r i : Nat) : (s.moveTo r i).txI = i := rfl

@[simp] theorem State.moveTo_txH (r i : Nat) : (s.moveTo r i).txH = s.txH := rfl

@[simp] theorem State.moveTo_line (r i : Nat) : (s.moveTo r i).line = s.line := rfl

@[simp] theorem State.moveTo_phase (r i : Nat) : (s.moveTo r i).phase = s.phase := rfl

@[simp] theorem State.moveTo_rspValid (r i : Nat) : (s.moveTo r i).rspValid = s.rspValid := rfl

@[simp] theorem State.moveTo_rspErr (r i : Nat) : (s.moveTo r i).rspErr = s.rspErr := rfl

@[simp] theorem State.moveTo_rspData (r i : Nat) : (s.moveTo r i).rspData = s.rspData := rfl

@[simp] theorem State.moveTo_lineOut (r i : Nat) : (s.moveTo r i).lineOut = s.lineOut := rfl

@[simp] theorem State.moveTo_lineSet (r i : Nat) : (s.moveTo r i).lineSet = s.lineSet := rfl

@[simp] theorem State.moveTo_pins (r i : Nat) : (s.moveTo r i).pins = s.pins := rfl

@[simp] theorem State.moveTo_inbox (r i : Nat) : (s.moveTo r i).inbox = s.inbox := rfl

@[simp] theorem State.moveTo_trace (r i : Nat) : (s.moveTo r i).trace = s.trace := rfl

@[simp] theorem State.moveTo_draws (r i : Nat) : (s.moveTo r i).draws = s.draws := rfl

/-! ### `toLevel` -/

@[simp] theorem State.toLevel_cfgKey : (s.toLevel).cfgKey = s.cfgKey := rfl

@[simp] theorem State.toLevel_cfgPin : (s.toLevel).cfgPin = s.cfgPin := rfl

@[simp] theorem State.toLevel_cfgDefdev : (s.toLevel).cfgDefdev = s.cfgDefdev := rfl

@[simp] theorem State.toLevel_cfgPw : (s.toLevel).cfgPw = s.cfgPw := rfl

@[simp] theorem State.toLevel_cfgRc : (s.toLevel).cfgRc = s.cfgRc := rfl

@[simp] theorem State.toLevel_fatal : (s.toLevel).fatal = s.fatal := rfl

@[simp] theorem State.toLevel_busy : (s.toLevel).busy = s.busy := rfl

@[simp] theorem State.toLevel_txWf : (s.toLevel).txWf = s.txWf := rfl

@[simp] theorem State.toLevel_txR : (s.toLevel).txR = s.txR := rfl

@[simp] theorem State.toLevel_txI : (s.toLevel).txI = s.txI := rfl

@[simp] theorem State.toLevel_txH : (s.toLevel).txH = s.txH := rfl

@[simp] theorem State.toLevel_line : (s.toLevel).line = s.line := rfl

@[simp] theorem State.toLevel_phase : (s.toLevel).phase = .level (Config.freeDelay s.draws) := rfl

@[simp] theorem State.toLevel_rspValid : (s.toLevel).rspValid = s.rspValid := rfl

@[simp] theorem State.toLevel_rspErr : (s.toLevel).rspErr = s.rspErr := rfl

@[simp] theorem State.toLevel_rspData : (s.toLevel).rspData = s.rspData := rfl

@[simp] theorem State.toLevel_lineOut : (s.toLevel).lineOut = s.lineOut := rfl

@[simp] theorem State.toLevel_lineSet : (s.toLevel).lineSet = s.lineSet := rfl

@[simp] theorem State.toLevel_pins : (s.toLevel).pins = s.pins := rfl

@[simp] theorem State.toLevel_inbox : (s.toLevel).inbox = s.inbox := rfl

@[simp] theorem State.toLevel_trace : (s.toLevel).trace = s.trace := rfl

@[simp] theorem State.toLevel_draws : (s.toLevel).draws = s.draws + 1 := rfl

/-! ### `assertReset` -/

@[simp] theorem State.assertReset_cfgKey : (s.assertReset).cfgKey = keyEntries (Config.freeKey s.draws) := rfl

@[simp] theorem State.assertReset_cfgPin : (s.assertReset).cfgPin = Config.freeCount s.draws := rfl

@[simp] theorem State.assertReset_cfgDefdev : (s.assertReset).cfgDefdev = Config.freeCount (s.draws + 1) := rfl

@[simp] theorem State.assertReset_cfgPw : (s.assertReset).cfgPw = Config.freeCount (s.draws + 2) := rfl

@[simp] theorem State.assertReset_cfgRc : (s.assertReset).cfgRc = Config.freeCount (s.draws + 3) := rfl

@[simp] theorem State.assertReset_fatal : (s.assertReset).fatal = false := rfl

@[simp] theorem State.assertReset_busy : (s.assertReset).busy = false := rfl

@[simp] theorem State.assertReset_txWf : (s.assertReset).txWf = unpackWaveform (Config.freeBus s.draws) := rfl

@[simp] theorem State.assertReset_txR : (s.assertReset).txR = Config.freeCount (s.draws + 4) := rfl

@[simp] theorem State.assertReset_txI : (s.assertReset).txI = Config.freeCount (s.draws + 5) := rfl

@[simp] theorem State.assertReset_txH : (s.assertReset).txH = Config.freeCount (s.draws + 6) := rfl

@[simp] theorem State.assertReset_line : (s.assertReset).line = s.line := rfl

@[simp] theorem State.assertReset_phase : (s.assertReset).phase = .reset := rfl

@[simp] theorem State.assertReset_rspValid : (s.assertReset).rspValid = s.rspValid := rfl

@[simp] theorem State.assertReset_rspErr : (s.assertReset).rspErr = s.rspErr := rfl

@[simp] theorem State.assertReset_rspData : (s.assertReset).rspData = s.rspData := rfl

@[simp] theorem State.assertReset_lineOut : (s.assertReset).lineOut = s.lineOut := rfl

@[simp] theorem State.assertReset_lineSet : (s.assertReset).lineSet = s.lineSet := rfl

@[simp] theorem State.assertReset_pins : (s.assertReset).pins = s.pins := rfl

@[simp] theorem State.assertReset_inbox : (s.assertReset).inbox = s.inbox := rfl

@[simp] theorem State.assertReset_trace : (s.assertReset).trace = s.trace ++ s.cutHold := rfl

@[simp] theorem State.assertReset_draws : (s.assertReset).draws = s.draws + 7 := rfl

/-! ### `loadTimings` -/

@[simp] theorem State.loadTimings_cfgKey (c : StartupRecord) : (s.loadTimings c).cfgKey = s.cfgKey := rfl

@[simp] theorem State.loadTimings_cfgPin (c : StartupRecord) : (s.loadTimings c).cfgPin = s.cfgPin := rfl

@[simp] theorem State.loadTimings_cfgDefdev (c : StartupRecord) : (s.loadTimings c).cfgDefdev = s.cfgDefdev := rfl

@[simp] theorem State.loadTimings_cfgPw (c : StartupRecord) : (s.loadTimings c).cfgPw = c.pw.getD Config.pwDefault := rfl

@[simp] theorem State.loadTimings_cfgRc (c : StartupRecord) : (s.loadTimings c).cfgRc = c.rc.getD Config.rcDefault := rfl

@[simp] theorem State.loadTimings_fatal (c : StartupRecord) : (s.loadTimings c).fatal = s.fatal := rfl

@[simp] theorem State.loadTimings_busy (c : StartupRecord) : (s.loadTimings c).busy = s.busy := rfl

@[simp] theorem State.loadTimings_txWf (c : StartupRecord) : (s.loadTimings c).txWf = s.txWf := rfl

@[simp] theorem State.loadTimings_txR (c : StartupRecord) : (s.loadTimings c).txR = s.txR := rfl

@[simp] theorem State.loadTimings_txI (c : StartupRecord) : (s.loadTimings c).txI = s.txI := rfl

@[simp] theorem State.loadTimings_txH (c : StartupRecord) : (s.loadTimings c).txH = s.txH := rfl

@[simp] theorem State.loadTimings_line (c : StartupRecord) : (s.loadTimings c).line = s.line := rfl

@[simp] theorem State.loadTimings_phase (c : StartupRecord) : (s.loadTimings c).phase = s.phase := rfl

@[simp] theorem State.loadTimings_rspValid (c : StartupRecord) : (s.loadTimings c).rspValid = s.rspValid := rfl

@[simp] theorem State.loadTimings_rspErr (c : StartupRecord) : (s.loadTimings c).rspErr = s.rspErr := rfl

@[simp] theorem State.loadTimings_rspData (c : StartupRecord) : (s.loadTimings c).rspData = s.rspData := rfl

@[simp] theorem State.loadTimings_lineOut (c : StartupRecord) : (s.loadTimings c).lineOut = s.lineOut := rfl

@[simp] theorem State.loadTimings_lineSet (c : StartupRecord) : (s.loadTimings c).lineSet = s.lineSet := rfl

@[simp] theorem State.loadTimings_pins (c : StartupRecord) : (s.loadTimings c).pins = s.pins := rfl

@[simp] theorem State.loadTimings_inbox (c : StartupRecord) : (s.loadTimings c).inbox = s.inbox := rfl

@[simp] theorem State.loadTimings_trace (c : StartupRecord) : (s.loadTimings c).trace = s.trace := rfl

@[simp] theorem State.loadTimings_draws (c : StartupRecord) : (s.loadTimings c).draws = s.draws := rfl

/-! ### `setLevel` -/

@[simp] theorem State.setLevel_cfgKey (b : Level) : (s.setLevel b).cfgKey = s.cfgKey := by
  unfold State.setLevel; split <;> simp_all

@[simp] theorem State.setLevel_cfgPin (b : Level) : (s.setLevel b).cfgPin = s.cfgPin := by
  unfold State.setLevel; split <;> simp_all

@[simp] theorem State.setLevel_cfgDefdev (b : Level) : (s.setLevel b).cfgDefdev = s.cfgDefdev := by
  unfold State.setLevel; split <;> simp_all

@[simp] theorem State.setLevel_cfgPw (b : Level) : (s.setLevel b).cfgPw = s.cfgPw := by
  unfold State.setLevel; split <;> simp_all

@[simp] theorem State.setLevel_cfgRc (b : Level) : (s.setLevel b).cfgRc = s.cfgRc := by
  unfold State.setLevel; split <;> simp_all

@[simp] theorem State.setLevel_fatal (b : Level) : (s.setLevel b).fatal = s.fatal := by
  unfold State.setLevel; split <;> simp_all

@[simp] theorem State.setLevel_busy (b : Level) : (s.setLevel b).busy = s.busy := by
  unfold State.setLevel; split <;> simp_all

@[simp] theorem State.setLevel_txWf (b : Level) : (s.setLevel b).txWf = s.txWf := by
  unfold State.setLevel; split <;> simp_all

@[simp] theorem State.setLevel_txR (b : Level) : (s.setLevel b).txR = s.txR := by
  unfold State.setLevel; split <;> simp_all

@[simp] theorem State.setLevel_txI (b : Level) : (s.setLevel b).txI = s.txI := by
  unfold State.setLevel; split <;> simp_all

@[simp] theorem State.setLevel_txH (b : Level) : (s.setLevel b).txH = s.txH := by
  unfold State.setLevel; split <;> simp_all

@[simp] theorem State.setLevel_line (b : Level) : (s.setLevel b).line = if s.pins.lineFault then Config.freeLevel s.draws else b := by
  unfold State.setLevel; split <;> simp_all

@[simp] theorem State.setLevel_phase (b : Level) : (s.setLevel b).phase = s.phase := by
  unfold State.setLevel; split <;> simp_all

@[simp] theorem State.setLevel_rspValid (b : Level) : (s.setLevel b).rspValid = s.rspValid := by
  unfold State.setLevel; split <;> simp_all

@[simp] theorem State.setLevel_rspErr (b : Level) : (s.setLevel b).rspErr = s.rspErr := by
  unfold State.setLevel; split <;> simp_all

@[simp] theorem State.setLevel_rspData (b : Level) : (s.setLevel b).rspData = s.rspData := by
  unfold State.setLevel; split <;> simp_all

@[simp] theorem State.setLevel_lineOut (b : Level) : (s.setLevel b).lineOut = b := by
  unfold State.setLevel; split <;> simp_all

@[simp] theorem State.setLevel_lineSet (b : Level) : (s.setLevel b).lineSet = true := by
  unfold State.setLevel; split <;> simp_all

@[simp] theorem State.setLevel_pins (b : Level) : (s.setLevel b).pins = s.pins := by
  unfold State.setLevel; split <;> simp_all

@[simp] theorem State.setLevel_inbox (b : Level) : (s.setLevel b).inbox = s.inbox := by
  unfold State.setLevel; split <;> simp_all

@[simp] theorem State.setLevel_trace (b : Level) : (s.setLevel b).trace = s.trace ++ [if s.pins.lineFault then .setFail b else .set b] := by
  unfold State.setLevel; split <;> simp_all

@[simp] theorem State.setLevel_draws (b : Level) : (s.setLevel b).draws = if s.pins.lineFault then s.draws + 1 else s.draws := by
  unfold State.setLevel; split <;> simp_all

/-! ### `startup` -/

@[simp] theorem State.startup_cfgPw (c : StartupRecord) : (s.startup c).cfgPw = c.pw.getD Config.pwDefault := by
  unfold State.startup; split <;> simp_all

@[simp] theorem State.startup_cfgRc (c : StartupRecord) : (s.startup c).cfgRc = c.rc.getD Config.rcDefault := by
  unfold State.startup; split <;> simp_all

@[simp] theorem State.startup_fatal (c : StartupRecord) : (s.startup c).fatal = !recordValid c := by
  unfold State.startup; split <;> simp_all

@[simp] theorem State.startup_busy (c : StartupRecord) : (s.startup c).busy = s.busy := by
  unfold State.startup; split <;> simp_all

@[simp] theorem State.startup_txWf (c : StartupRecord) : (s.startup c).txWf = s.txWf := by
  unfold State.startup; split <;> simp_all

@[simp] theorem State.startup_txR (c : StartupRecord) : (s.startup c).txR = s.txR := by
  unfold State.startup; split <;> simp_all

@[simp] theorem State.startup_txI (c : StartupRecord) : (s.startup c).txI = s.txI := by
  unfold State.startup; split <;> simp_all

@[simp] theorem State.startup_txH (c : StartupRecord) : (s.startup c).txH = s.txH := by
  unfold State.startup; split <;> simp_all

@[simp] theorem State.startup_line (c : StartupRecord) : (s.startup c).line = s.line := by
  unfold State.startup; split <;> simp_all

@[simp] theorem State.startup_phase (c : StartupRecord) : (s.startup c).phase = .idle := by
  unfold State.startup; split <;> simp_all

@[simp] theorem State.startup_rspValid (c : StartupRecord) : (s.startup c).rspValid = s.rspValid := by
  unfold State.startup; split <;> simp_all

@[simp] theorem State.startup_rspErr (c : StartupRecord) : (s.startup c).rspErr = s.rspErr := by
  unfold State.startup; split <;> simp_all

@[simp] theorem State.startup_rspData (c : StartupRecord) : (s.startup c).rspData = s.rspData := by
  unfold State.startup; split <;> simp_all

@[simp] theorem State.startup_lineOut (c : StartupRecord) : (s.startup c).lineOut = s.lineOut := by
  unfold State.startup; split <;> simp_all

@[simp] theorem State.startup_lineSet (c : StartupRecord) : (s.startup c).lineSet = s.lineSet := by
  unfold State.startup; split <;> simp_all

@[simp] theorem State.startup_pins (c : StartupRecord) : (s.startup c).pins = s.pins := by
  unfold State.startup; split <;> simp_all

@[simp] theorem State.startup_inbox (c : StartupRecord) : (s.startup c).inbox = s.inbox := by
  unfold State.startup; split <;> simp_all

@[simp] theorem State.startup_trace (c : StartupRecord) : (s.startup c).trace = s.trace := by
  unfold State.startup; split <;> simp_all

end Sys2Proof.Machine
end

