-- ==== Sys2Proof/Laws/Step.lean ====
section
/-! SUPPORT. Laws of exec, of one step and of runs: each says once what the operation can do. -/

namespace Sys2Proof.Machine

/-! ### The transmit step and exec -/

theorem startTrain_eq_next {s : State} (h : s.InContract) (w : Waveform) :
    s.startTrain w = .next (s.beginTrain w) := by
  unfold State.startTrain
  rw [if_neg (by have := h.2; omega), if_neg (by have := h.1; omega)]

/-- All the transmit step can do when it answers a next state. -/
theorem startTrain_next {s t : State} {w : Waveform} (h : s.startTrain w = .next t) :
    s.InContract ∧ t = s.beginTrain w := by
  unfold State.startTrain at h
  split at h
  · cases h
  · split at h
    · cases h
    · cases h; exact ⟨⟨by omega, by omega⟩, rfl⟩

theorem issueWaveform_eq_ok {key : List Bool} (h : key.length = 5) (device : Nat) (command : Command) :
    issueWaveform key device command = .ok (expandLevels (buildCodeword key device command)) := by
  simp [issueWaveform, encodeCall_eq_ok h, expandCall_eq_ok]

/-- What exec can do with an operation that a request can carry, on a block whose key has five entries: an answer that
the ports allow, or a train of 128 levels. -/
theorem exec_next_wf {i : Instr} {s t : State} (hi : i.WellFormed) (hk : s.cfgKey.length = 5)
    (h : exec i s = .next t) :
    (∃ r, quietResponse r = true ∧ t = s.answer r) ∨
      ∃ w : Waveform, w.length = 128 ∧ s.fatal = false ∧ s.InContract ∧ t = s.beginTrain w := by
  cases i with
  | encode key device command =>
    have hi' := ((encode_wellFormed_iff key device command).mp hi).1
    simp only [exec, execEncode, encodeCall_eq_ok hi'] at h
    split at h <;> cases h <;> exact .inl ⟨_, rfl, rfl⟩
  | expand cw =>
    have hi' := (expand_wellFormed_iff cw).mp hi
    simp only [exec, execExpand, expandCall_eq_ok hi'] at h
    split at h <;> cases h <;> exact .inl ⟨_, rfl, rfl⟩
  | transmit w =>
    have hi' := (transmit_wellFormed_iff w).mp hi
    simp only [exec, execTransmit] at h
    split at h
    · cases h; exact .inl ⟨_, rfl, rfl⟩
    · obtain ⟨hc, rfl⟩ := startTrain_next h
      exact .inr ⟨w, hi', by simp_all, hc, rfl⟩
  | issue token device =>
    simp only [exec, execIssue, issueWaveform_eq_ok hk] at h
    split at h
    · cases h; exact .inl ⟨_, rfl, rfl⟩
    · split at h
      · cases h; exact .inl ⟨_, rfl, rfl⟩
      · obtain ⟨hc, rfl⟩ := startTrain_next h
        exact .inr ⟨_, by simp, by simp_all, hc, rfl⟩

/-! ### The answers of exec -/

theorem encodeCall_error {key : List Bool} {device : Nat} {command : Command} {e : Error}
    (h : encodeCall key device command = .error e) : e = .invalidConfiguration .keyLength := by
  unfold encodeCall at h
  split at h <;> cases h
  rfl

theorem expandCall_error {cw : Codeword} {e : Error} (h : expandCall cw = .error e) :
    e = .invalidCodeword cw.length := by
  unfold expandCall at h
  split at h <;> cases h
  rfl

/-- A codeword that ENCODE builds always expands, so the one error of the two stages of ISSUE is the key length. -/
theorem issueWaveform_error {key : List Bool} {device : Nat} {command : Command} {e : Error}
    (h : issueWaveform key device command = .error e) : e = .invalidConfiguration .keyLength := by
  by_cases hk : key.length = 5
  · rw [issueWaveform_eq_ok hk] at h; cases h
  · unfold issueWaveform encodeCall at h
    rw [if_neg (show ¬key.length = Config.keyLen from hk)] at h
    cases h
    rfl

@[simp] theorem stageError_invalidConfiguration (s : State) (check : ConfigCheck) :
    s.stageError (.invalidConfiguration check) = .next (s.raise (.invalidConfiguration check)) := rfl

@[simp] theorem stageError_invalidCodeword (s : State) (length : Nat) :
    s.stageError (.invalidCodeword length) = .fault (.invalidCodeword length) := rfl

/-- All an error of a stage can do. -/
theorem stageError_cases (s : State) (e : Error) :
    (∃ n, e = .invalidCodeword n ∧ s.stageError e = .fault (.invalidCodeword n)) ∨
      ((∀ n, e ≠ .invalidCodeword n) ∧ s.stageError e = .next (s.raise e)) := by
  cases e with
  | invalidCodeword n => exact .inl ⟨n, rfl, rfl⟩
  | _ => exact .inr ⟨by simp, rfl⟩

/-- The answers exec can give before any access, each with where it comes from. -/
inductive EarlyAnswer (i : Instr) : Response → Prop where
  | result (d : Bus) : EarlyAnswer i (.ok (some d))
  | configuration (c : ConfigCheck) : EarlyAnswer i (.error (.invalidConfiguration c))
  | token (code device : Nat) (h : i = .issue (.unrecognised code) device) :
    EarlyAnswer i (.error (.invalidCommand (.unrecognised code)))

/-- All exec can do, with the kind of its answer. -/
theorem exec_kinds {i : Instr} {s t : State} (h : exec i s = .next t) :
    (∃ r, EarlyAnswer i r ∧ t = s.answer r) ∨
      ((i.op = .transmit ∨ i.op = .issue) ∧ ∃ w, s.fatal = false ∧ s.InContract ∧ t = s.beginTrain w) := by
  cases i with
  | encode key device command =>
    simp only [exec, execEncode] at h
    split at h
    · cases h; exact .inl ⟨_, .configuration _, rfl⟩
    · split at h
      case h_1 he => cases encodeCall_error he; cases h; exact .inl ⟨_, .configuration _, rfl⟩
      case h_2 => cases h; exact .inl ⟨_, .result _, rfl⟩
  | expand cw =>
    simp only [exec, execExpand] at h
    split at h
    · cases h; exact .inl ⟨_, .configuration _, rfl⟩
    · split at h
      case h_1 he => cases expandCall_error he; cases h
      case h_2 => cases h; exact .inl ⟨_, .result _, rfl⟩
  | transmit w =>
    simp only [exec, execTransmit] at h
    split at h
    · cases h; exact .inl ⟨_, .configuration _, rfl⟩
    · obtain ⟨hc, rfl⟩ := startTrain_next h
      exact .inr ⟨.inl rfl, w, by simp_all, hc, rfl⟩
  | issue token device =>
    simp only [exec, execIssue] at h
    split at h
    · cases h; exact .inl ⟨_, .configuration _, rfl⟩
    · split at h
      case h_1 ht =>
        cases h
        cases token with
        | off => cases ht
        | on => cases ht
        | unrecognised code => exact .inl ⟨_, .token code device rfl, rfl⟩
      case h_2 =>
        split at h
        case h_1 he => cases issueWaveform_error he; cases h; exact .inl ⟨_, .configuration _, rfl⟩
        case h_2 =>
          obtain ⟨hc, rfl⟩ := startTrain_next h
          exact .inr ⟨.inr rfl, _, by simp_all, hc, rfl⟩

/-- The same, with the kind of answer left out. -/
theorem exec_next {i : Instr} {s t : State} (h : exec i s = .next t) :
    (∃ r, t = s.answer r) ∨
      ((i.op = .transmit ∨ i.op = .issue) ∧ ∃ w, s.fatal = false ∧ s.InContract ∧ t = s.beginTrain w) :=
  (exec_kinds h).imp_left fun ⟨r, _, e⟩ => ⟨r, e⟩

/-! ### The transmitter -/

theorem advance_index {s : State} (h : s.txI + 1 < s.txWf.length) :
    s.advance = (s.moveTo s.txR (s.txI + 1)).toLevel := by
  simp [State.advance, h]

theorem advance_repetition {s : State} (h : s.txWf.length ≤ s.txI + 1) (h' : s.txR + 1 < s.cfgRc) :
    s.advance = (s.moveTo (s.txR + 1) 0).toLevel := by
  simp [State.advance, Nat.not_lt.mpr h, h']

theorem advance_end {s : State} (h : s.txWf.length ≤ s.txI + 1) (h' : s.cfgRc ≤ s.txR + 1) :
    s.advance = s.finish (.ok none) := by
  simp [State.advance, Nat.not_lt.mpr h, Nat.not_lt.mpr h']

/-- All the advance after a hold can do. -/
theorem advance_cases (s : State) :
    (s.txI + 1 < s.txWf.length ∧ s.advance = (s.moveTo s.txR (s.txI + 1)).toLevel) ∨
    (s.txWf.length ≤ s.txI + 1 ∧ s.txR + 1 < s.cfgRc ∧ s.advance = (s.moveTo (s.txR + 1) 0).toLevel) ∨
    (s.txWf.length ≤ s.txI + 1 ∧ s.cfgRc ≤ s.txR + 1 ∧ s.advance = s.finish (.ok none)) := by
  rcases Nat.lt_or_ge (s.txI + 1) s.txWf.length with h | h
  · exact .inl ⟨h, advance_index h⟩
  · rcases Nat.lt_or_ge (s.txR + 1) s.cfgRc with h' | h'
    · exact .inr (.inl ⟨h, h', advance_repetition h h'⟩)
    · exact .inr (.inr ⟨h, h', advance_end h h'⟩)

theorem holdTick_more {s : State} (h : 1 < s.txH) : s.holdTick = s.countDown := by
  simp [State.holdTick, h]

theorem holdTick_over {s : State} (h : s.txH ≤ 1) : s.holdTick = s.endHold.advance := by
  simp [State.holdTick, Nat.not_lt.mpr h]

/-- All the idle guard can do (R95, R99). -/
theorem guardAccess_cases (s : State) :
    (s.pins.lineFault = true ∧
      s.guardAccess = (s.setLevel false).finish (.error (.transmissionFailed .guard))) ∨
    (s.pins.lineFault = false ∧ s.txWf = [] ∧ s.guardAccess = (s.setLevel false).finish (.ok none)) ∨
    (s.pins.lineFault = false ∧ s.txWf ≠ [] ∧ s.guardAccess = (s.setLevel false).toLevel) := by
  unfold State.guardAccess
  cases hl : s.pins.lineFault
  · by_cases hw : s.txWf = [] <;> simp [hw]
  · simp

theorem levelAccess_ok {s : State} {b : Level} (hw : s.txWf[s.txI]? = some b) (hl : s.pins.lineFault = false) :
    s.levelAccess = .next (s.setLevel b).beginHold := by
  simp [State.levelAccess, hw, hl]

theorem levelAccess_fails {s : State} {b : Level} (hw : s.txWf[s.txI]? = some b)
    (hl : s.pins.lineFault = true) :
    s.levelAccess = .next ((s.setLevel b).finish (.error (.transmissionFailed (.level s.txR s.txI)))) := by
  simp [State.levelAccess, hw, hl]

/-- All a level access can do when it answers a next state (R94, R99). -/
theorem levelAccess_next {s t : State} (h : s.levelAccess = .next t) :
    ∃ b, s.txWf[s.txI]? = some b ∧
      ((s.pins.lineFault = false ∧ t = (s.setLevel b).beginHold) ∨
        (s.pins.lineFault = true ∧
          t = (s.setLevel b).finish (.error (.transmissionFailed (.level s.txR s.txI))))) := by
  cases hw : s.txWf[s.txI]? with
  | none => simp [State.levelAccess, hw] at h
  | some b =>
    refine ⟨b, rfl, ?_⟩
    cases hl : s.pins.lineFault
    · rw [levelAccess_ok hw hl] at h; cases h; exact .inl ⟨rfl, rfl⟩
    · rw [levelAccess_fails hw hl] at h; cases h; exact .inr ⟨rfl, rfl⟩

/-! ### One step -/

/-- A next state is the block's action followed by the surroundings' move. -/
theorem step_eq_next {s t : State} : step s = .next t ↔ ∃ u, s.act = .next u ∧ t = u.takePins := by
  unfold step afterAct
  cases s.act <;> simp [eq_comm]

theorem act_of_rst {s : State} (h : s.pins.rst = true) : s.act = .next s.clearStrobes.assertReset := by
  simp [State.act, h]

theorem act_of_not_rst {s : State} (h : s.pins.rst = false) : s.act = s.clearStrobes.phaseAct := by
  simp [State.act, h]

/-- All the block can do in one step that answers a next state, one case for each control point. -/
inductive Action (s : State) : State → Prop where
  | reset (hr : s.pins.rst = true) : Action s s.clearStrobes.assertReset
  | startup (hr : s.pins.rst = false) (hp : s.phase = .reset) :
    Action s (s.clearStrobes.startup s.pins.cfg0)
  | idle (hr : s.pins.rst = false) (hp : s.phase = .idle) : Action s s.clearStrobes
  | accept {t : State} (hr : s.pins.rst = false) (hp : s.phase = .idle) (hb : s.busy = false)
    (hv : s.pins.reqValid = true)
    (he : exec (decodeRequest s.pins.reqWord s.pins.reqOpd) s.clearStrobes = .next t) : Action s t
  | respondWait {n : Nat} {r : Response} (hr : s.pins.rst = false) (hp : s.phase = .respond (n + 1) r) :
    Action s (s.clearStrobes.goTo (.respond n r))
  | respond {r : Response} (hr : s.pins.rst = false) (hp : s.phase = .respond 0 r) :
    Action s (s.clearStrobes.giveResponse r)
  | guardWait {n : Nat} (hr : s.pins.rst = false) (hp : s.phase = .guard (n + 1)) :
    Action s (s.clearStrobes.goTo (.guard n))
  | guard (hr : s.pins.rst = false) (hp : s.phase = .guard 0) : Action s s.clearStrobes.guardAccess
  | levelWait {n : Nat} (hr : s.pins.rst = false) (hp : s.phase = .level (n + 1)) :
    Action s (s.clearStrobes.goTo (.level n))
  | level {t : State} (hr : s.pins.rst = false) (hp : s.phase = .level 0)
    (he : s.clearStrobes.levelAccess = .next t) : Action s t
  | hold (hr : s.pins.rst = false) (hp : s.phase = .hold) : Action s s.clearStrobes.holdTick

theorem act_next {s t : State} (h : s.act = .next t) : Action s t := by
  cases hr : s.pins.rst with
  | true => rw [act_of_rst hr] at h; cases h; exact .reset hr
  | false =>
    rw [act_of_not_rst hr] at h
    simp only [State.phaseAct, State.clearStrobes_phase, State.clearStrobes_pins] at h
    split at h
    case h_1 hp => cases h; exact .startup hr hp
    case h_2 hp =>
      unfold State.idleAct at h
      split at h
      case isTrue hq =>
        simp only [State.reqReady, State.clearStrobes_pins, State.clearStrobes_busy, Bool.and_eq_true,
          Bool.not_eq_true'] at hq
        exact .accept hr hp hq.2.1.2 hq.1 h
      case isFalse => cases h; exact .idle hr hp
    case h_3 hp => cases h; exact .respondWait hr hp
    case h_4 hp => cases h; exact .respond hr hp
    case h_5 hp => cases h; exact .guardWait hr hp
    case h_6 hp => cases h; exact .guard hr hp
    case h_7 hp => cases h; exact .levelWait hr hp
    case h_8 hp => exact .level hr hp h
    case h_9 hp => cases h; exact .hold hr hp

/-- A step that answers a next state is one action and the surroundings' move. -/
theorem step_action {s t : State} (h : step s = .next t) : ∃ u, Action s u ∧ t = u.takePins := by
  obtain ⟨u, hu, rfl⟩ := step_eq_next.mp h
  exact ⟨u, act_next hu, rfl⟩

/-- The surroundings' move touches nothing the invariant speaks of. -/
theorem State.TrainOn.takePins {s : State} (h : s.TrainOn) : s.takePins.TrainOn :=
  ⟨h.busy, h.notFatal, h.pwPos, h.rcPos, h.length, h.repetition, h.index⟩

theorem State.Inv.takePins {s : State} (h : s.Inv) : s.takePins.Inv := by
  obtain ⟨a, b⟩ := h
  refine ⟨a, ?_⟩
  unfold State.PhaseInv at b ⊢
  rw [State.takePins_phase]
  cases hp : s.phase <;> rw [hp] at b
  case respond => exact b.imp (fun h => ⟨h.1, h.2.1.takePins, h.2.2⟩) id
  case guard => exact ⟨b.1.takePins, b.2⟩
  case level => exact ⟨b.1.takePins, b.2⟩
  case hold => exact ⟨b.1.takePins, b.2⟩
  all_goals exact b

theorem reqReady_eq_false_of_phase {s : State} (h : s.phase ≠ .idle) : s.reqReady = false := by
  simp [State.reqReady, h]

/-- A block that is not idle does what its control point says; here for each of them. -/
theorem step_startup {s : State} (hr : s.pins.rst = false) (hp : s.phase = .reset) :
    step s = .next (s.clearStrobes.startup s.pins.cfg0).takePins := by
  simp [step, act_of_not_rst hr, State.phaseAct, hp, afterAct]

theorem step_respond_succ {s : State} {n : Nat} {r : Response} (hr : s.pins.rst = false)
    (hp : s.phase = .respond (n + 1) r) :
    step s = .next ((s.clearStrobes.goTo (.respond n r)).takePins) := by
  simp [step, act_of_not_rst hr, State.phaseAct, hp, afterAct]

theorem step_respond_zero {s : State} {r : Response} (hr : s.pins.rst = false)
    (hp : s.phase = .respond 0 r) : step s = .next (s.clearStrobes.giveResponse r).takePins := by
  simp [step, act_of_not_rst hr, State.phaseAct, hp, afterAct]

theorem step_guard_succ {s : State} {n : Nat} (hr : s.pins.rst = false) (hp : s.phase = .guard (n + 1)) :
    step s = .next ((s.clearStrobes.goTo (.guard n)).takePins) := by
  simp [step, act_of_not_rst hr, State.phaseAct, hp, afterAct]

theorem step_guard_zero {s : State} (hr : s.pins.rst = false) (hp : s.phase = .guard 0) :
    step s = .next s.clearStrobes.guardAccess.takePins := by
  simp [step, act_of_not_rst hr, State.phaseAct, hp, afterAct]

theorem step_level_succ {s : State} {n : Nat} (hr : s.pins.rst = false) (hp : s.phase = .level (n + 1)) :
    step s = .next ((s.clearStrobes.goTo (.level n)).takePins) := by
  simp [step, act_of_not_rst hr, State.phaseAct, hp, afterAct]

theorem step_level_zero {s : State} (hr : s.pins.rst = false) (hp : s.phase = .level 0) :
    step s = afterAct s.clearStrobes.levelAccess := by
  simp [step, act_of_not_rst hr, State.phaseAct, hp]

theorem step_hold {s : State} (hr : s.pins.rst = false) (hp : s.phase = .hold) :
    step s = .next s.clearStrobes.holdTick.takePins := by
  simp [step, act_of_not_rst hr, State.phaseAct, hp, afterAct]

theorem step_idle {s : State} (hr : s.pins.rst = false) (hp : s.phase = .idle) :
    step s = afterAct s.clearStrobes.idleAct := by
  simp [step, act_of_not_rst hr, State.phaseAct, hp]

/-! ### The trace of a train -/

theorem levelsBefore_snoc {w : Waveform} {i : Nat} {b : Level} (r : Nat) (h : w[i]? = some b) :
    levelsBefore w r (i + 1) = levelsBefore w r i ++ [b] := by
  unfold levelsBefore
  rw [List.append_assoc, List.take_add_one, h]
  rfl

theorem levelsBefore_repetition (w : Waveform) (r : Nat) :
    levelsBefore w r w.length = levelsBefore w (r + 1) 0 := by
  simp [levelsBefore, List.replicate_succ', List.flatten_append]

/-- One more level-hold. -/
theorem trainTrace_snoc {w : Waveform} {i : Nat} {b : Level} (pw r : Nat) (h : w[i]? = some b) :
    trainTrace w pw r i ++ [.set b] ++ [.hold pw] = trainTrace w pw r (i + 1) := by
  unfold trainTrace
  rw [levelsBefore_snoc r h]
  simp [levelHold]

/-- No gap between repetitions (R96). -/
theorem trainTrace_repetition (w : Waveform) (pw r : Nat) :
    trainTrace w pw r w.length = trainTrace w pw (r + 1) 0 := by
  rw [trainTrace, trainTrace, levelsBefore_repetition]

/-! ### Runs -/

@[simp] theorem run_zero (s : State) : Sys2Proof.core.run 0 s = .next s := rfl

theorem run_step {s t : State} {n : Nat} {o : Host.Outcome State Fault Refusal} (h : step s = .next t)
    (ht : Sys2Proof.core.run n t = o) : Sys2Proof.core.run (n + 1) s = o := by
  have h' : Sys2Proof.core.step s = .next t := h
  have e := Host.Core.run.eq_2 Sys2Proof.core s n
  rw [h'] at e
  exact e.trans ht

/-- A run of more than no step begins with a step. -/
theorem run_succ_next {s u : State} {n : Nat} (h : Sys2Proof.core.run (n + 1) s = .next u) :
    ∃ t, step s = .next t ∧ Sys2Proof.core.run n t = .next u := by
  have e := Host.Core.run.eq_2 Sys2Proof.core s n
  replace h := e.symm.trans h
  cases hs : Sys2Proof.core.step s with
  | next t => rw [hs] at h; exact ⟨t, hs, h⟩
  | fault f => rw [hs] at h; cases h
  | refused r => rw [hs] at h; cases h

theorem run_one {s t : State} (h : step s = .next t) : Sys2Proof.core.run 1 s = .next t :=
  run_step h rfl

/-- Runs compose. -/
theorem run_trans {n : Nat} {t : State} {o : Host.Outcome State Fault Refusal} :
    ∀ {m : Nat} {s : State}, Sys2Proof.core.run m s = .next t → Sys2Proof.core.run n t = o →
      Sys2Proof.core.run (m + n) s = o := by
  intro m
  induction m with
  | zero => intro s h ht; cases h; simpa using ht
  | succ m ih =>
    intro s h ht
    obtain ⟨u, hs, hu⟩ := run_succ_next h
    rw [show m + 1 + n = m + n + 1 by omega]
    exact run_step hs (ih hu ht)

/-- What the surroundings refrain from, they still refrain from after their move. -/
theorem State.NoReset.takePins {s : State} (h : s.NoReset) : s.takePins.NoReset := by
  intro p hp
  apply h
  cases hi : s.inbox <;> simp_all

theorem State.Undisturbed.takePins {s : State} (h : s.Undisturbed) : s.takePins.Undisturbed := by
  intro p hp
  apply h
  cases hi : s.inbox <;> simp_all

theorem State.Undisturbed.noReset {s : State} (h : s.Undisturbed) : s.NoReset := fun p hp => (h p hp).1

theorem State.NoReset.rst {s : State} (h : s.NoReset) : s.pins.rst = false := h _ (List.mem_cons_self ..)

theorem State.Undisturbed.rst {s : State} (h : s.Undisturbed) : s.pins.rst = false :=
  (h _ (List.mem_cons_self ..)).1

theorem State.Undisturbed.lineFault {s : State} (h : s.Undisturbed) : s.pins.lineFault = false :=
  (h _ (List.mem_cons_self ..)).2

/-- The surroundings refrain from the same after an action that leaves the ports alone. -/
theorem State.NoReset.act {s t : State} (h : s.NoReset) (hp : t.pins = s.pins) (hi : t.inbox = s.inbox) :
    t.takePins.NoReset := by
  apply State.NoReset.takePins
  unfold State.NoReset at *
  rwa [hp, hi]

theorem State.Undisturbed.act {s t : State} (h : s.Undisturbed) (hp : t.pins = s.pins)
    (hi : t.inbox = s.inbox) : t.takePins.Undisturbed := by
  apply State.Undisturbed.takePins
  unfold State.Undisturbed at *
  rwa [hp, hi]

/-- The step that accepts a request. -/
theorem step_accept {s t : State} (hr : s.pins.rst = false) (hp : s.phase = .idle) (hb : s.busy = false)
    (hv : s.pins.reqValid = true)
    (h : exec (decodeRequest s.pins.reqWord s.pins.reqOpd) s.clearStrobes = .next t) :
    step s = .next t.takePins := by
  have e : s.clearStrobes.idleAct = .next t := by simp [State.idleAct, State.reqReady, hr, hp, hb, hv, h]
  rw [step_idle hr hp, e]
  rfl

/-! ### Other levels on the input pins -/

/-- An action that does not look at the pins ends alike whatever they show. -/
theorem agreeUpToPins_takePins (s : State) (p : Pins) :
    agreeUpToPins (.next s.takePins) (.next (s.withPins p).takePins) := by
  cases hi : s.inbox <;> simp [agreeUpToPins, State.takePins, State.withPins, hi]

theorem withPins_setLevel {s : State} {p : Pins} (h : p.lineFault = s.pins.lineFault) (b : Level) :
    (s.withPins p).setLevel b = (s.setLevel b).withPins p := by
  unfold State.setLevel
  simp only [State.withPins, h]
  split <;> rfl

theorem withPins_startup (s : State) (p : Pins) (c : StartupRecord) :
    (s.withPins p).startup c = (s.startup c).withPins p := by
  unfold State.startup
  split <;> rfl

theorem withPins_advance (s : State) (p : Pins) : (s.withPins p).advance = s.advance.withPins p := by
  rcases advance_cases s with ⟨h, e⟩ | ⟨h, h', e⟩ | ⟨h, h', e⟩ <;> rw [e]
  · rw [advance_index (by exact h)]; rfl
  · rw [advance_repetition (by exact h) (by exact h')]; rfl
  · rw [advance_end (by exact h) (by exact h')]; rfl

end Sys2Proof.Machine
end

