-- ==== Sys2Proof/Laws/Train.lean ====
section
/-! SUPPORT. Laws of the trace of a train and of the document's transmit loop (spec 42 R94, R100, R101). -/

namespace Sys2Proof.Machine

theorem levelsBefore_length {w : Waveform} {i : Nat} (r : Nat) (h : i ≤ w.length) :
    (levelsBefore w r i).length = r * w.length + i := by
  simp [levelsBefore, h]

/-- Level-holds counted: one access, one hold and `pw` time units each (R100, R101). -/
theorem levelHolds_counts (pw : Nat) (l : List Level) :
    accessCount (l.flatMap (levelHold pw)) = l.length ∧ holdCount (l.flatMap (levelHold pw)) = l.length ∧
      holdTime (l.flatMap (levelHold pw)) = l.length * pw := by
  induction l with
  | nil => simp [accessCount, holdCount, holdTime]
  | cons b l ih =>
    obtain ⟨h1, h2, h3⟩ := ih
    simp only [accessCount, holdCount, holdTime, List.flatMap_cons, List.countP_append, List.map_append,
      List.sum_append, List.length_cons] at *
    refine ⟨?_, ?_, ?_⟩
    · rw [h1, show List.countP Event.isAccess (levelHold pw b) = 1 from rfl]; omega
    · rw [h2, show List.countP (fun e => !e.isAccess) (levelHold pw b) = 1 from rfl]; omega
    · rw [h3]; simp [levelHold, Event.time]; ring

/-- Levels whose accesses all succeed. -/
theorem emitLevels_ok (pw : Nat) (fails : Nat → Bool) : ∀ (l : List Level) (n : Nat),
    (∀ k, n ≤ k → k < n + l.length → fails k = false) →
    emitLevels pw fails n l = (l.flatMap (levelHold pw), none) := by
  intro l
  induction l with
  | nil => intro n h; rfl
  | cons b l ih =>
    intro n h
    rw [emitLevels, h n (by omega) (by simp), ih (n + 1) (fun k h1 h2 => h k (by omega) (by simp; omega))]
    simp [levelHold]

/-- Levels of which the first to fail is b. -/
theorem emitLevels_fails (pw : Nat) (fails : Nat → Bool) (b : Level) (rest : List Level) :
    ∀ (l : List Level) (n : Nat), (∀ k, n ≤ k → k < n + l.length → fails k = false) →
    fails (n + l.length) = true →
    emitLevels pw fails n (l ++ b :: rest) =
      (l.flatMap (levelHold pw) ++ [.setFail b], some (n + l.length)) := by
  intro l
  induction l with
  | nil => intro n h h'; simp at h'; simp [emitLevels, h']
  | cons c l ih =>
    intro n h h'
    rw [List.cons_append, emitLevels, h n (by omega) (by simp),
      ih (n + 1) (fun k h1 h2 => h k (by omega) (by simp; omega)) (by rw [← h']; congr 1; simp; omega)]
    simp [levelHold]
    omega

/-- Levels none of whose accesses failed. -/
theorem emitLevels_none {pw : Nat} {fails : Nat → Bool} : ∀ {l : List Level} {n : Nat},
    (emitLevels pw fails n l).2 = none → (emitLevels pw fails n l).1 = l.flatMap (levelHold pw) := by
  intro l
  induction l with
  | nil => intro n _; rfl
  | cons b l ih =>
    intro n h
    unfold emitLevels at h ⊢
    split at h
    · cases h
    · rename_i hf
      rw [if_neg hf, List.flatMap_cons, ← ih h]
      rfl

/-- The trace of a call that succeeds (R94). -/
theorem transmitCall_ok {w : Waveform} {pw rc : Nat} {fails : Nat → Bool} {t : List Event}
    (h : transmitCall w pw rc fails = some (t, .ok none)) : t = trainTrace w pw rc 0 := by
  unfold transmitCall at h
  split at h
  · cases h
  · split at h
    · cases h
    · split at h
      case h_1 l he =>
        cases h
        have hl := emitLevels_none (congrArg Prod.snd he)
        rw [he] at hl
        simp [trainTrace, levelsBefore, ← hl]
      case h_2 => cases h

/-- The levels of a whole train, cut before level i of repetition r. -/
theorem train_split {w : Waveform} {rc r i : Nat} {b : Level} (hr : r < rc) (hw : w[i]? = some b) :
    ∃ rest, (List.replicate rc w).flatten = levelsBefore w r i ++ b :: rest := by
  obtain ⟨m, rfl⟩ : ∃ m, rc = r + (m + 1) := ⟨rc - r - 1, by omega⟩
  refine ⟨w.drop (i + 1) ++ (List.replicate m w).flatten, ?_⟩
  rw [List.replicate_add, List.flatten_append, List.replicate_succ, List.flatten_cons, levelsBefore,
    List.append_assoc]
  congr 1
  obtain ⟨hi, e⟩ := List.getElem?_eq_some_iff.mp hw
  have : w = w.take i ++ b :: w.drop (i + 1) := by
    conv_lhs => rw [← List.take_append_drop i w, List.drop_eq_getElem_cons hi, e]
  rw [← List.cons_append, ← List.append_assoc, ← this]

end Sys2Proof.Machine
end

