-- ==== Sys2Proof/Tests/Slice0.lean ====
section
/-! SUPPORT. Tests. Expected results come from spec 95_test_vectors.md (named by their row), or by hand from the rule
named. The second half gives, for every statement with hypotheses, a state and operands that meet them. -/

namespace Sys2Proof.Machine

/-! ### The checks of WellFormed refuse -/

theorem test_key_of_four_refused : (Instr.encode [true, false, true, false] 0 .on).wellFormed = false := by decide

theorem test_key_of_six_refused :
    (Instr.encode [true, false, true, false, true, true] 0 .on).wellFormed = false := by decide

theorem test_device_256_refused :
    (Instr.encode [true, false, true, false, true] 256 .on).wellFormed = false ∧
      (Instr.issue .on 256).wellFormed = false := by decide

theorem test_codeword_of_fifteen_refused : (Instr.expand (List.replicate 15 0#8)).wellFormed = false := by decide

theorem test_waveform_of_127_refused :
    (Instr.transmit (List.replicate 127 true)).wellFormed = false := by decide +kernel

theorem test_unrecognised_codes_are_2_to_63 :
    (Token.unrecognised 1).wellFormed = false ∧ (Token.unrecognised 2).wellFormed = true ∧
      (Token.unrecognised 63).wellFormed = true ∧ (Token.unrecognised 64).wellFormed = false := by decide

/-! ### Decoding: words written out bit by bit from R56 -/

/-- E1: op 00, cmd 1, key 11111, dev 00000001. -/
theorem test_decode_encode :
    decodeTableWord 16 0b0011111100000001 = some (.encode [true, true, true, true, true] 1 .on) := by decide

/-- E14 with its key entries 1 and 2 true: op 00, cmd 0, key field 00110, dev 00000100. -/
theorem test_decode_encode_key_order :
    decodeTableWord 16 0b0000011000000100 = some (.encode [false, true, true, false, false] 4 .off) := by decide

/-- X4: op 01, then symbol 0 in the highest byte of the operand. -/
theorem test_decode_expand :
    decodeTableWord 144 0xFF00A5010000000000000000000000004000 =
      some (.expand ([0xFF#8, 0x00#8, 0xA5#8, 0x01#8] ++ List.replicate 12 0#8)) := by decide

/-- R36: op 10, entry 0 in the highest bit of the operand. -/
theorem test_decode_transmit :
    decodeTableWord 144 0xA00000000000000000000000000000018000 =
      some (.transmit ([true, false, true] ++ List.replicate 124 false ++ [true])) := by decide +kernel

/-- I1 to I4: op 11, tok, dev. -/
theorem test_decode_issue :
    decodeTableWord 16 0b1100000000000011 = some (.issue .off 3) ∧
      decodeTableWord 16 0b1100000100000011 = some (.issue .on 3) ∧
      decodeTableWord 16 0b1100001000000011 = some (.issue (.unrecognised 2) 3) ∧
      decodeTableWord 16 0b1111111100000011 = some (.issue (.unrecognised 63) 3) := by decide

/-- R65: one request length. -/
theorem test_decode_refuses_other_lengths :
    decode 15 0 = .error .wordCutShort ∧ decode 145 0 = .error .longerThanARequest := by decide

/-- The encoder on the words of E12 and I4 and the operand of X4. -/
theorem test_encode_words :
    encodeWord (.encode [true, false, true, false, true] 10 .on) = 0x350A#16 ∧
      encodeWord (.issue (.unrecognised 63) 3) = 0xFF03#16 ∧
      encodeOpd (.expand ([0xFF#8, 0x00#8, 0xA5#8, 0x01#8] ++ List.replicate 12 0#8)) =
        0xFF00A501000000000000000000000000#128 := by decide

/-! ### The vectors of the spec on the calls -/

/-- The packed codeword of a call. -/
def packed (e : Except Error Codeword) : Option Bus :=
  match e with
  | .ok cw => some (packCodeword cw)
  | .error _ => none

/-- E1 and E12. -/
theorem test_encode_vectors :
    packed (encodeCall [true, true, true, true, true] 1 .on) = some 0x8888888888888E8E8E8E888E80000000#128 ∧
      packed (encodeCall [true, false, true, false, true] 10 .on) =
        some 0x888E888E888E888E888E888E80000000#128 := by decide

/-- E7, and the abstract vector of device 1029. -/
theorem test_encode_device_bits :
    packed (encodeCall [false, false, false, false, false] 16 .off) =
        some 0x8E8E8E8E8E8E8E8E8E888E8880000000#128 ∧
      packed (encodeCall [false, false, false, false, false] 1029 .off) =
        some 0x8E8E8E8E8E888E888E8E8E8880000000#128 := by decide

/-- X4: any 16 symbols expand, most significant bit first. -/
theorem test_expand_any_symbols :
    expandCall ([0xFF#8, 0x00#8, 0xA5#8, 0x01#8] ++ List.replicate 12 0#8) =
      .ok ([true, true, true, true, true, true, true, true, false, false, false, false, false, false, false, false,
        true, false, true, false, false, true, false, true, false, false, false, false, false, false, false, true] ++
        List.replicate 96 false) := by decide

/-- The abstract-only vector of 17 symbols. -/
theorem test_expand_wrong_length :
    expandCall (List.replicate 17 0#8) = .error (.invalidCodeword 17) := by decide

/-- T1. -/
theorem test_transmit_trace :
    transmitCall [true, false] 5 2 (fun _ => false) =
      some ([.set false, .set true, .hold 5, .set false, .hold 5, .set true, .hold 5, .set false, .hold 5],
        .ok none) := by decide

/-- T6 on the first levels of X2: the fifth access fails. -/
theorem test_transmit_abort :
    transmitCall [true, false, false, false, true] 300 10 (fun k => k = 4) =
      some ([.set false, .set true, .hold 300, .set false, .hold 300, .set false, .hold 300, .setFail false],
        .error (.transmissionFailed (.level 0 3))) := by decide

/-! ### A small machine -/

/-- The startup record of B1, but with two repetitions. -/
def benchCfg : StartupRecord :=
  { key := [true, false, true, true, false], pin := some 7, defdev := some 3, pw := none, rc := some 2 }

/-- Pins that present a request word. -/
def benchPins (word : RequestWord) : Pins :=
  { rst := false, reqValid := true, reqWord := word, reqOpd := 0#128, lineFault := false, cfg0 := benchCfg }

/-- An idle block with the configuration of `benchCfg` and this word on its request port. -/
def bench (word : RequestWord) : State :=
  { cfgKey := [true, false, true, true, false], cfgPin := 7, cfgDefdev := 3, cfgPw := 300, cfgRc := 2,
    fatal := false, busy := false, txWf := [], txR := 0, txI := 0, txH := 0, line := false, phase := .idle,
    rspValid := false, rspErr := 0#3, rspData := 0#128, lineOut := false, lineSet := false,
    pins := benchPins word, inbox := [], trace := [], draws := 0 }

/-- The waveform of 128 levels HIGH, LOW, HIGH, LOW, ... -/
def benchWave : Waveform := (List.replicate 64 [true, false]).flatten

theorem benchWave_length : benchWave.length = 128 := by decide +kernel

/-- The block in a train, before level i of repetition r, with the trace of the train so far. -/
def benchTrain (phase : Phase) (r i : Nat) : State :=
  { bench 0xC003#16 with
    busy := true, txWf := benchWave, txR := r, txI := i, phase := phase, trace := trainTrace benchWave 300 r i }

/-- The block at startup with this record. -/
def benchBoot (c : StartupRecord) : State :=
  { bench 0#16 with phase := .reset, pins := { benchPins 0#16 with cfg0 := c } }

/-- What a next state shows. -/
def shows {α : Type} (o : Host.Outcome State Fault Refusal) (f : State → α) : Option α :=
  match o with
  | .next t => some (f t)
  | .fault _ => none
  | .refused _ => none

/-- A request runs as the first after reset: ENCODE answers, ISSUE and TRANSMIT start the train. -/
theorem test_first_requests_run :
    shows (step (State.reset.withFetchWord 16 0x3F01)) (fun t => t.trace) = some [] ∧
      shows (step (State.reset.withFetchWord 16 0x4000)) (fun t => t.busy) = some false ∧
      shows (step (State.reset.withFetchWord 16 0x8000)) (fun t => t.txWf) = some (List.replicate 128 false) ∧
      shows (step (State.reset.withFetchWord 16 0xC101)) (fun t => t.busy) = some true := by decide

/-- I1: ISSUE 3, off loads the waveform of E15 (X3). -/
theorem test_issue_waveform :
    shows (step (bench 0xC003#16)) (fun t => packWaveform t.txWf) = some 0x888E88888E88888E8E8E8E8880000000#128 := by
  decide +kernel

/-- I3: an unrecognised token is answered `InvalidCommand` and nothing starts. -/
theorem test_issue_unrecognised :
    step (bench 0xC203#16) = .next { bench 0xC203#16 with
      phase := .respond (Config.freeDelay 0) (.error (.invalidCommand (.unrecognised 2))), draws := 1 } := rfl

/-- I8: `STATUS.FATAL` is checked before the token. -/
theorem test_issue_fatal_first :
    step { bench 0xC203#16 with fatal := true } = .next { bench 0xC203#16 with
      fatal := true, phase := .respond (Config.freeDelay 0) (.error (.invalidConfiguration .startup)),
      draws := 1 } := rfl

/-- B1 and B2: the two timings. -/
theorem test_startup_timings :
    shows (step (benchBoot { benchCfg with rc := none })) (fun t => (t.fatal, t.cfgPw, t.cfgRc)) =
        some (false, 300, 10) ∧
      shows (step (benchBoot { benchCfg with pw := some 350, rc := some 4 }))
        (fun t => (t.fatal, t.cfgPw, t.cfgRc)) = some (false, 350, 4) := by decide

/-- B3 to B6 latch `STATUS.FATAL`. -/
theorem test_startup_invalid :
    shows (step (benchBoot { benchCfg with key := [true, false, true, true] })) (fun t => t.fatal) = some true ∧
      shows (step (benchBoot { benchCfg with key := [true, false, true, true, false, false] }))
        (fun t => t.fatal) = some true ∧
      shows (step (benchBoot { benchCfg with pin := none })) (fun t => t.fatal) = some true ∧
      shows (step (benchBoot { benchCfg with defdev := none })) (fun t => t.fatal) = some true := by decide

/-- B7: the default device is not range-checked. -/
theorem test_startup_defdev_77 :
    shows (step (benchBoot { benchCfg with defdev := some 77 })) (fun t => (t.fatal, t.cfgDefdev)) =
      some (false, 77) := by decide

/-- R153: reset in the middle of a hold drops the flags and leaves the line HIGH; the part of the hold that has
passed stays in the trace. -/
theorem test_reset_in_a_hold :
    shows (step { benchTrain .hold 0 0 with txH := 100, line := true, pins := { benchPins 0#16 with rst := true } })
        (fun t => (t.busy, t.line, t.rspValid, t.trace)) =
      some (false, true, false, [.set false, .hold 200]) := by decide

/-- R96, P3: the hold of entry 127 of repetition 0 is followed by the access for entry 0 of repetition 1. -/
theorem test_repetition_follows :
    shows (step { benchTrain .hold 0 127 with txH := 1 }) (fun t => (t.txR, t.txI, t.busy)) =
      some (1, 0, true) := by decide +kernel

/-! ### Witnesses: requests -/

theorem test_wit_EncodedRequestDecodesBack :
    (Instr.encode [true, false, true, true, false] 255 .off).WellFormed ∧
      (Instr.expand (List.replicate 16 0xFF#8)).WellFormed ∧ (Instr.transmit benchWave).WellFormed ∧
      (Instr.issue (.unrecognised 2) 0).WellFormed ∧ (Instr.issue (.unrecognised 63) 255).WellFormed := by decide +kernel

theorem test_wit_RequestFieldsAreRead :
    (0x3FFF#16 : RequestWord).extractLsb' 14 2 = 0b00#2 ∧ (0x4000#16 : RequestWord).extractLsb' 14 2 = 0b01#2 ∧
      (0xBFFF#16 : RequestWord).extractLsb' 14 2 = 0b10#2 ∧
      (0xC000#16 : RequestWord).extractLsb' 14 2 = 0b11#2 := by decide

theorem test_wit_IgnoredBitsChangeNothing :
    (0x4000#16 : RequestWord).extractLsb' 14 2 = (0x7FFF#16 : RequestWord).extractLsb' 14 2 ∧
      (0x7FFF#16 : RequestWord).extractLsb' 14 2 = 0b01#2 ∧
      (0x8000#16 : RequestWord).extractLsb' 14 2 = (0xBFFF#16 : RequestWord).extractLsb' 14 2 ∧
      (0x8000#16 : RequestWord).extractLsb' 14 2 = 0b10#2 ∧
      (0x0000#16 : RequestWord).extractLsb' 14 2 = 0b00#2 ∧
      (0xFFFF#16 : RequestWord).extractLsb' 14 2 = 0b11#2 := by decide

/-! ### Witnesses: codec and expander -/

/-- A key of five entries, with the first and the last entry and channel: for the laws of the codec and for
`EncodeCompletes`, `CodewordShape` and `BuiltWaveformShape`. -/
theorem test_wit_KeyEntriesGovernSymbols :
    [true, false, true, true, false].length = 5 ∧ (0 < 5 ∧ 4 < 5) ∧ (bench 0#16).fatal = false := by decide

theorem test_wit_DeviceBitsGovernSymbols :
    [false, false, true, true, false].length = 5 ∧ [true, true, true, true, true].length = 5 ∧
      [false, false, false, false, false].length = 5 := by decide

theorem test_wit_CommandTogglesThePairAlone :
    [true, false, true, true, false].length = 5 ∧ (9 : Nat) ≠ 10 ∧ (9 : Nat) ≠ 11 ∧ (12 : Nat) ≠ 10 ∧
      (12 : Nat) ≠ 11 := by decide

theorem test_wit_TrailerIsFixedAndDeviceIsMod32 : [true, false, true, true, false].length = 5 := by decide

theorem test_wit_CodewordShape : [false, false, false, false, false].length = 5 := by decide

theorem test_wit_EncodeIsInjective :
    [true, false, true, true, false].length = 5 ∧
      encodeCall [true, false, true, true, false] 3 .on = encodeCall [true, false, true, true, false] 35 .on := by
  decide

theorem test_wit_EncodeCompletes :
    (bench 0#16).fatal = false ∧ [true, false, true, true, false].length = 5 := by decide

theorem test_wit_EncodeRejectsOtherKeyLengths :
    (bench 0#16).fatal = false ∧ [true, false, true, true].length ≠ 5 ∧
      [true, false, true, true, false, false].length ≠ 5 ∧ ([] : List Bool).length ≠ 5 := by decide

theorem test_wit_ExpandLengthLaw :
    expandCall (List.replicate 16 0#8) = .ok (List.replicate 128 false) ∧
      (List.replicate 16 0#8 : Codeword).length = 16 ∧ (List.replicate 15 0#8 : Codeword).length ≠ 16 ∧
      (List.replicate 17 0#8 : Codeword).length ≠ 16 ∧ ([] : Codeword).length ≠ 16 := by decide

theorem test_wit_ExpandBitOrder :
    (List.replicate 16 0x8E#8 : Codeword).length = 16 ∧ (0 < 16 ∧ 15 < 16) ∧ (0 < 8 ∧ 7 < 8) ∧
      (0 < 128 ∧ 127 < 128) := by decide

theorem test_wit_PackedWaveformIsPackedCodeword :
    (List.replicate 16 0x8E#8 : Codeword).length = 16 ∧ (0 < 16 ∧ 15 < 16) ∧ (0 < 8 ∧ 7 < 8) ∧
      (0 < 128 ∧ 127 < 128) := by decide

theorem test_wit_ExpandIsInjective :
    baseCodeword.length = 16 ∧ (buildCodeword [false, false, false, false, false] 32 .off).length = 16 ∧
      expandCall baseCodeword = expandCall (buildCodeword [false, false, false, false, false] 32 .off) := by decide

theorem test_wit_BuiltWaveformShape :
    [true, false, true, true, false].length = 5 ∧ (97 ≤ 97 ∧ 127 < 128) ∧ (0 < 12 ∧ 11 < 12) := by decide

theorem test_wit_ExpandCompletes :
    (bench 0#16).fatal = false ∧ (List.replicate 16 0xFF#8 : Codeword).length = 16 := by decide

/-- The first clause on both sides of 16 and on no symbols; the second on the fault the first one gives. -/
theorem test_wit_ExpandRejectsOtherLengths :
    ((bench 0#16).fatal = false ∧ (List.replicate 15 0xFF#8 : Codeword).length ≠ 16 ∧
      (List.replicate 17 0xFF#8 : Codeword).length ≠ 16 ∧ ([] : Codeword).length ≠ 16) ∧
    exec (.expand (List.replicate 17 0xFF#8)) (bench 0#16) = .fault (.invalidCodeword 17) :=
  ⟨by decide, rfl⟩

/-! ### Witnesses: the start of a train -/

theorem test_wit_TransmitStartsTheTrain :
    (bench 0#16).fatal = false ∧ (bench 0#16).InContract ∧
      ({ bench 0#16 with cfgPw := 1, cfgRc := 1 } : State).InContract :=
  ⟨rfl, ⟨by decide, by decide⟩, ⟨by decide, by decide⟩⟩

theorem test_wit_IssueStartsTheTrain :
    (bench 0#16).fatal = false ∧ (bench 0#16).InContract ∧ (bench 0#16).cfgKey.length = 5 :=
  ⟨rfl, ⟨by decide, by decide⟩, rfl⟩

theorem test_wit_IssueIsEncodeExpandTransmit : (bench 0#16).cfgKey.length = 5 := rfl

/-- For both clauses, with TRANSMIT and with ISSUE of both tokens. -/
theorem test_wit_ZeroTimingsAreRefused :
    ({ bench 0#16 with cfgRc := 0 } : State).fatal = false ∧ ({ bench 0#16 with cfgRc := 0 } : State).cfgRc = 0 ∧
      ({ bench 0#16 with cfgPw := 0 } : State).fatal = false ∧
      ({ bench 0#16 with cfgPw := 0 } : State).cfgRc ≠ 0 ∧ ({ bench 0#16 with cfgPw := 0 } : State).cfgPw = 0 ∧
      ({ bench 0#16 with cfgPw := 0 } : State).cfgKey.length = 5 ∧
      (∃ w, Instr.transmit [] = .transmit w) ∧
      (∃ token device, Instr.issue .on 3 = .issue token device ∧ (token = .on ∨ token = .off)) ∧
      ∃ token device, Instr.issue .off 3 = .issue token device ∧ (token = .on ∨ token = .off) :=
  ⟨rfl, rfl, rfl, by decide, rfl, rfl, ⟨_, rfl⟩, ⟨_, _, rfl, .inl rfl⟩, ⟨_, _, rfl, .inr rfl⟩⟩

theorem test_wit_UnrecognisedTokenIsRejected : (bench 0xC203#16).fatal = false := rfl

theorem test_wit_FatalBlockAnswersInvalidConfiguration :
    ({ bench 0#16 with fatal := true } : State).fatal = true := rfl

/-- One state for each clause. -/
theorem test_wit_IssueChecksInOrder :
    ({ bench 0#16 with fatal := true } : State).fatal = true ∧ (bench 0#16).fatal = false ∧
      ({ bench 0#16 with cfgKey := [true, false, true, true] } : State).cfgKey.length ≠ 5 ∧
      (bench 0#16).cfgKey.length = 5 := by decide

/-- Each operation has a next state. -/
theorem test_wit_AcceptanceFrame :
    (∃ t, exec (.encode [true, false, true, true, false] 3 .on) (bench 0#16) = .next t) ∧
      (∃ t, exec (.expand (List.replicate 16 0xFF#8)) (bench 0#16) = .next t) ∧
      (∃ t, exec (.transmit benchWave) (bench 0#16) = .next t) ∧
      (∃ t, exec (.issue .on 3) (bench 0#16) = .next t) :=
  ⟨⟨_, rfl⟩, ⟨_, rfl⟩, ⟨_, rfl⟩, ⟨_, rfl⟩⟩

/-- An early error of ENCODE with a key of four entries, and of ISSUE with an unrecognised token. -/
theorem test_wit_EarlyErrorsAreFreeOfEffects :
    (∃ t left, exec (.encode [true, false, true, true] 3 .on) (bench 0#16) = .next t ∧
        t.phase = .respond left (.error (.invalidConfiguration .keyLength))) ∧
      ∃ t left, exec (.issue (.unrecognised 2) 3) (bench 0#16) = .next t ∧
        t.phase = .respond left (.error (.invalidCommand (.unrecognised 2))) :=
  ⟨⟨_, _, rfl, rfl⟩, ⟨_, _, rfl, rfl⟩⟩

theorem test_wit_InvalidCommandComesFromIssueAlone :
    (∃ t left, exec (.issue (.unrecognised 63) 255) (bench 0#16) = .next t ∧
        t.phase = .respond left (.error (.invalidCommand (.unrecognised 63)))) ∧
      (bench 0#16).fatal = false ∧ Token.unrecognised 2 ≠ .on ∧ Token.unrecognised 2 ≠ .off :=
  ⟨⟨_, _, rfl, rfl⟩, by decide⟩

/-! ### Witnesses: the sequencer -/

theorem test_wit_StepRunsTheDecodedRequest :
    (bench 0xC003#16).pins.rst = false ∧ (bench 0xC003#16).phase = .idle ∧ (bench 0xC003#16).busy = false ∧
      (bench 0xC003#16).pins.reqValid = true := by decide

/-- An idle block to which nothing is presented. -/
def benchQuiet : State := { bench 0#16 with pins := { benchPins 0#16 with reqValid := false } }

theorem test_wit_IdleBlockWaits :
    benchQuiet.pins.rst = false ∧ benchQuiet.phase = .idle ∧ benchQuiet.pins.reqValid = false := by decide

theorem test_wit_GuardDrivesTheLineLow :
    (benchTrain (.guard 0) 0 0).pins.rst = false ∧ (benchTrain (.guard 0) 0 0).pins.lineFault = false ∧
      (benchTrain (.guard 0) 0 0).phase = .guard 0 ∧ (benchTrain (.guard 0) 0 0).txWf ≠ [] := by decide

theorem test_wit_LevelAccessBeginsTheHold :
    (benchTrain (.level 0) 1 127).pins.rst = false ∧ (benchTrain (.level 0) 1 127).pins.lineFault = false ∧
      (benchTrain (.level 0) 1 127).phase = .level 0 ∧
      (benchTrain (.level 0) 1 127).txWf[(benchTrain (.level 0) 1 127).txI]? = some false := by decide

/-- The block in a train, the line answering `IOError`. -/
def benchBroken (phase : Phase) (r i : Nat) : State :=
  { benchTrain phase r i with pins := { benchPins 0#16 with lineFault := true } }

/-- One state for each of the two accesses. -/
theorem test_wit_FailedAccessEndsTheTrain :
    (benchBroken (.guard 0) 0 0).NoReset ∧ (benchBroken (.guard 0) 0 0).pins.lineFault = true ∧
      (benchBroken (.guard 0) 0 0).phase = .guard 0 ∧ (benchBroken (.level 0) 1 0).NoReset ∧
      (benchBroken (.level 0) 1 0).pins.lineFault = true ∧ (benchBroken (.level 0) 1 0).phase = .level 0 ∧
      (benchBroken (.level 0) 1 0).txWf[(benchBroken (.level 0) 1 0).txI]? = some true := by
  unfold State.NoReset
  decide

theorem test_wit_HoldLastsItsCount :
    ({ benchTrain .hold 0 0 with txH := 300 } : State).NoReset ∧
      ({ benchTrain .hold 0 0 with txH := 300 } : State).phase = .hold ∧
      0 < ({ benchTrain .hold 0 0 with txH := 300 } : State).txH ∧
      0 < ({ benchTrain .hold 0 0 with txH := 1 } : State).txH := by
  unfold State.NoReset
  decide

/-- One position for each clause: inside a repetition, at its end, at the end of the train. -/
theorem test_wit_PositionAdvances :
    ({ benchTrain .hold 0 126 with txH := 1 } : State).pins.rst = false ∧
      ({ benchTrain .hold 0 126 with txH := 1 } : State).phase = .hold ∧ 126 + 1 < benchWave.length ∧
      benchWave.length ≤ 127 + 1 ∧ 0 + 1 < (benchTrain .hold 0 127).cfgRc ∧
      (benchTrain .hold 1 127).cfgRc ≤ 1 + 1 := by decide +kernel

/-- A state for each kind of response. -/
theorem test_wit_ResponseIsGiven :
    ∀ r ∈ ([.ok none, .ok (some 5#128), .error (.invalidConfiguration .keyLength), .error (.invalidCodeword 15),
        .error (.transmissionFailed .guard), .error (.invalidCommand (.unrecognised 2))] : List Response),
      (benchTrain (.respond 0 r) 1 127).pins.rst = false ∧
        (benchTrain (.respond 0 r) 1 127).phase = .respond 0 r := by decide

theorem test_wit_OneResponseComes :
    (benchTrain (.respond 0 (.ok none)) 1 127).NoReset ∧ (benchTrain (.respond 3 (.ok none)) 1 127).NoReset ∧
      (benchTrain (.respond 3 (.ok none)) 1 127).phase = .respond 3 (.ok none) ∧
      ({ bench 0#16 with phase := .respond 3 (.ok (some 5#128)) } : State).NoReset ∧
      ({ bench 0#16 with phase := .respond 3 (.ok (some 5#128)) } : State).phase = .respond 3 (.ok (some 5#128)) := by
  unfold State.NoReset
  decide

theorem test_wit_ErrorCodesStayInRange :
    shows (step (benchTrain (.respond 0 (.ok none)) 1 127)) (fun t => t.rspValid) = some true := by decide

/-- A step that makes an access and one that makes none. -/
theorem test_wit_OnlyAnAccessMovesTheLine :
    shows (step (benchTrain (.level 0) 1 0)) (fun t => t.lineSet) = some true ∧
      shows (step benchQuiet) (fun t => t.lineSet) = some false := by decide

theorem test_wit_ConfigurationIsImmutable :
    (bench 0xC003#16).pins.rst = false ∧ (bench 0xC003#16).phase ≠ .reset ∧
      shows (step (bench 0xC003#16)) (fun t => t.busy) = some true := by decide

theorem test_wit_UnreadyBlockIgnoresRequestPins :
    (benchTrain .hold 0 0).reqReady = false ∧ (benchBoot benchCfg).reqReady = false := by decide

theorem test_wit_RecordIsReadAtStartupOnly :
    ({ benchBoot benchCfg with pins := { benchPins 0#16 with rst := true } } : State).pins.rst = true ∧
      (bench 0xC003#16).phase ≠ .reset := by decide

/-! ### Witnesses: reset and startup -/

theorem test_wit_StartupLoadsAValidRecord :
    (benchBoot benchCfg).pins.rst = false ∧ (benchBoot benchCfg).phase = .reset ∧
      (benchBoot benchCfg).pins.cfg0.key.length = 5 ∧ (benchBoot benchCfg).pins.cfg0.pin = some 7 ∧
      (benchBoot benchCfg).pins.cfg0.defdev = some 3 := by decide

theorem test_wit_StartupValidatesTheRecord :
    (benchBoot { benchCfg with pin := none }).pins.rst = false ∧
      (benchBoot { benchCfg with pin := none }).phase = .reset := by decide

theorem test_wit_ResetWinsOverEverything :
    ({ benchTrain .hold 0 0 with pins := { benchPins 0#16 with rst := true } } : State).pins.rst = true := rfl

/-! ### Witnesses: the whole train -/

theorem test_wit_SuccessfulTransmitCounts :
    (0 < 1 ∧ 0 < 2) ∧ ∀ k, k ≤ 2 * benchWave.length → (fun _ : Nat => false) k = false :=
  ⟨by decide, fun _ _ => rfl⟩

/-- An abort at the guard, at the first level and at the last level of the last repetition of [true, false] twice. -/
theorem test_wit_AbortedTransmitCounts :
    (fun k : Nat => decide (k = 0)) 0 = true ∧
      (0 < 2 ∧ 0 < [true, false].length ∧ (∀ k, k ≤ 0 → (fun k : Nat => decide (k = 1)) k = false) ∧
        (fun k : Nat => decide (k = 1)) (1 + 0 * [true, false].length + 0) = true) ∧
      (1 < 2 ∧ 1 < [true, false].length ∧ (∀ k, k ≤ 3 → (fun k : Nat => decide (k = 4)) k = false) ∧
        (fun k : Nat => decide (k = 4)) (1 + 1 * [true, false].length + 1) = true) := by decide

/-- The train of `benchTrain` is on. -/
theorem benchTrain_on (phase : Phase) {r i : Nat} (hr : r < 2) (hi : i < 128) : (benchTrain phase r i).TrainOn :=
  ⟨rfl, rfl, (by decide : 0 < 300), (by decide : 0 < 2), benchWave_length, hr, hi⟩

/-- A train that has ended well, its response on its way. -/
def benchDone (left : Nat) : State :=
  { benchTrain (.respond left (.ok none)) 1 127 with trace := trainTrace benchWave 300 2 0 }

theorem benchDone_inv (left : Nat) : (benchDone left).Inv :=
  ⟨rfl, .inl ⟨rfl, ⟨rfl, rfl, (by decide : 0 < 300), (by decide : 0 < 2), benchWave_length, (by decide : 1 < 2),
    (by decide : 127 < 128)⟩, .inl ⟨rfl, rfl⟩⟩⟩

/-- Two calls that differ in their levels, and two blocks with their train behind them. -/
theorem test_wit_TrainShapeIsIndependentOfLevels :
    ([true, false].length = [false, false].length ∧
      (∃ t, transmitCall [true, false] 5 2 (fun _ => false) = some (t, .ok none)) ∧
      ∃ t, transmitCall [false, false] 5 2 (fun k => decide (5 ≤ k)) = some (t, .ok none)) ∧
    ((benchDone 0).Inv ∧ (benchDone 3).Inv ∧ (benchDone 0).busy = true ∧ (benchDone 3).busy = true ∧
      (benchDone 0).phase = .respond 0 (.ok none) ∧ (benchDone 3).phase = .respond 3 (.ok none) ∧
      (benchDone 0).cfgPw = (benchDone 3).cfgPw ∧ (benchDone 0).cfgRc = (benchDone 3).cfgRc) :=
  ⟨⟨rfl, ⟨_, rfl⟩, ⟨_, rfl⟩⟩, benchDone_inv 0, benchDone_inv 3, rfl, rfl, rfl, rfl, rfl, rfl⟩

/-- A state of each control point that meets the invariant and has a next state. -/
theorem test_wit_StepKeepsTheInvariant :
    ((bench 0xC003#16).Inv ∧ ∃ t, step (bench 0xC003#16) = .next t) ∧
      ((benchTrain (.level 0) 1 127).Inv ∧ ∃ t, step (benchTrain (.level 0) 1 127) = .next t) ∧
      ((benchTrain (.respond 0 (.ok none)) 1 127).cfgKey.length = 5 ∧
        ∃ t, step (benchTrain (.respond 0 (.ok none)) 1 127) = .next t) :=
  ⟨⟨⟨rfl, rfl⟩, ⟨_, rfl⟩⟩, ⟨⟨rfl, benchTrain_on _ (by decide) (by decide), rfl⟩, ⟨_, rfl⟩⟩, rfl, ⟨_, rfl⟩⟩

theorem test_wit_InvariantStatesStep :
    (bench 0xC003#16).Inv ∧ ((bench 0xC003#16).phase = .idle → (bench 0xC003#16).InContract) :=
  ⟨⟨rfl, rfl⟩, fun _ => ⟨by decide, by decide⟩⟩

/-- A train that has ended well, one that failed at the guard, one that failed at level 127 of repetition 1. -/
theorem test_wit_TrainIsTheTransmitCall :
    (benchDone 0).Inv ∧
      ({ benchTrain (.respond 0 (.error (.transmissionFailed .guard))) 0 0 with
          trace := [.setFail false] } : State).Inv ∧
      ({ benchTrain (.respond 0 (.error (.transmissionFailed (.level 1 127)))) 1 127 with
          trace := trainTrace benchWave 300 1 127 ++ [.setFail false] } : State).Inv := by
  refine ⟨benchDone_inv 0, ⟨rfl, .inl ⟨rfl, ?_, .inr (.inl ⟨rfl, rfl⟩)⟩⟩,
    ⟨rfl, .inl ⟨rfl, ?_, .inr (.inr ⟨rfl, false, by decide, rfl⟩)⟩⟩⟩
  all_goals exact ⟨rfl, rfl, by decide, by decide, benchWave_length, by decide, by decide⟩

theorem test_wit_TransmitRunsToSuccess :
    (bench 0x8000#16).Undisturbed ∧ (bench 0x8000#16).fatal = false ∧ (bench 0x8000#16).InContract := by
  unfold State.Undisturbed State.InContract
  decide

theorem test_wit_IssueRequestRunsToSuccess :
    (bench 0xC103#16).Undisturbed ∧ (bench 0xC103#16).phase = .idle ∧ (bench 0xC103#16).busy = false ∧
      (bench 0xC103#16).fatal = false ∧ (bench 0xC103#16).InContract ∧ (bench 0xC103#16).cfgKey.length = 5 ∧
      (bench 0xC103#16).pins.reqValid = true ∧
      decodeRequest (bench 0xC103#16).pins.reqWord (bench 0xC103#16).pins.reqOpd = .issue .on 3 ∧
      decodeRequest (bench 0xC003#16).pins.reqWord (bench 0xC003#16).pins.reqOpd = .issue .off 3 := by
  unfold State.Undisturbed State.InContract
  decide

theorem test_wit_EncodeRequestIsAnswered :
    (bench 0x2D03#16).NoReset ∧ (bench 0x2D03#16).phase = .idle ∧ (bench 0x2D03#16).busy = false ∧
      (bench 0x2D03#16).fatal = false ∧ (bench 0x2D03#16).pins.reqValid = true ∧
      decodeRequest (bench 0x2D03#16).pins.reqWord (bench 0x2D03#16).pins.reqOpd =
        .encode [true, false, true, true, false] 3 .on := by
  unfold State.NoReset
  decide

theorem test_wit_ExpandRequestIsAnswered :
    (bench 0x4000#16).NoReset ∧ (bench 0x4000#16).phase = .idle ∧ (bench 0x4000#16).busy = false ∧
      (bench 0x4000#16).fatal = false ∧ (bench 0x4000#16).pins.reqValid = true ∧
      decodeRequest (bench 0x4000#16).pins.reqWord (bench 0x4000#16).pins.reqOpd =
        .expand (List.replicate 16 0#8) := by
  unfold State.NoReset
  decide

end Sys2Proof.Machine
end

