-- ==== Sys2Proof/Proofs/State.lean ====
section
/-! PROOFS. The configuration has one writer, startup (spec 10 R19): every other operation on the state keeps `CFG.*`
and `STATUS.FATAL`, reset apart. -/

namespace Sys2Proof.Machine

/-! ### The configuration under each operation -/

theorem sameConfig.refl (s : State) : sameConfig s s := ⟨rfl, rfl, rfl, rfl, rfl, rfl⟩

theorem sameConfig.trans {s t u : State} (h : sameConfig s t) (h' : sameConfig t u) : sameConfig s u := by
  obtain ⟨key, pin, defdev, pw, rc, fatal⟩ := h
  obtain ⟨key', pin', defdev', pw', rc', fatal'⟩ := h'
  exact ⟨key'.trans key, pin'.trans pin, defdev'.trans defdev, pw'.trans pw, rc'.trans rc, fatal'.trans fatal⟩

theorem clearStrobes_sameConfig (s : State) : sameConfig s s.clearStrobes := by simp [sameConfig]

theorem takePins_sameConfig (s : State) : sameConfig s s.takePins := by simp [sameConfig]

theorem goTo_sameConfig (s : State) (p : Phase) : sameConfig s (s.goTo p) := by simp [sameConfig]

theorem giveResponse_sameConfig (s : State) (r : Response) : sameConfig s (s.giveResponse r) := by
  simp [sameConfig]

/-- An answer writes no configuration, and neither does the start of a train. -/
theorem exec_sameConfig {i : Instr} {s t : State} (h : exec i s = .next t) : sameConfig s t := by
  obtain ⟨r, rfl⟩ | ⟨-, w, -, -, rfl⟩ := exec_next h
  · simp [sameConfig]
  · simp [sameConfig]

theorem guardAccess_sameConfig (s : State) : sameConfig s s.guardAccess := by
  obtain ⟨-, e⟩ | ⟨-, -, e⟩ | ⟨-, -, e⟩ := guardAccess_cases s
  all_goals simp [e, sameConfig]

theorem levelAccess_sameConfig {s t : State} (h : s.levelAccess = .next t) : sameConfig s t := by
  obtain ⟨b, -, ⟨-, rfl⟩ | ⟨-, rfl⟩⟩ := levelAccess_next h
  all_goals simp [sameConfig]

theorem advance_sameConfig (s : State) : sameConfig s s.advance := by
  obtain ⟨-, e⟩ | ⟨-, -, e⟩ | ⟨-, -, e⟩ := advance_cases s
  all_goals simp [e, sameConfig]

theorem holdTick_sameConfig (s : State) : sameConfig s s.holdTick := by
  rcases Nat.lt_or_ge 1 s.txH with more | last
  · simp [holdTick_more more, sameConfig]
  · have ended : sameConfig s s.endHold := by simp [sameConfig]
    rw [holdTick_over last]
    exact ended.trans (advance_sameConfig s.endHold)

/-! ### The configuration under one step -/

/-- R19: of all the block can do in one step, reset and startup alone write the configuration. -/
theorem action_sameConfig {s t : State} (h : Action s t) (hr : s.pins.rst = false) (hp : s.phase ≠ .reset) :
    sameConfig s t := by
  refine (clearStrobes_sameConfig s).trans ?_
  cases h with
  | reset hr' => simp [hr] at hr'
  | startup _ hp' => exact absurd hp' hp
  | idle => exact .refl _
  | accept _ _ _ _ he => exact exec_sameConfig he
  | respondWait => exact goTo_sameConfig ..
  | respond => exact giveResponse_sameConfig ..
  | guardWait => exact goTo_sameConfig ..
  | guard => exact guardAccess_sameConfig _
  | levelWait => exact goTo_sameConfig ..
  | level _ _ he => exact levelAccess_sameConfig he
  | hold => exact holdTick_sameConfig _

/-- Settles O43: the block's action keeps the configuration, and so does the surroundings' move after it. -/
theorem configurationIsImmutable : Obligations.ConfigurationIsImmutable := by
  intro s t hr hp h
  obtain ⟨u, action, rfl⟩ := step_action h
  exact (action_sameConfig action hr hp).trans (takePins_sameConfig u)

end Sys2Proof.Machine
end

section
/-! PROOFS. Requests (spec 30): the row a word selects (R62), where each field of a request stands (R56, R57, R36),
and the bits that are not examined (R64). -/

namespace Sys2Proof.Machine

/-! ### The row of a word -/

/-- R56: the two highest bits of a word have one of four values. -/
theorem opField_cases (word : RequestWord) :
    word.extractLsb' 14 2 = 0#2 ∨ word.extractLsb' 14 2 = 1#2 ∨
      word.extractLsb' 14 2 = 2#2 ∨ word.extractLsb' 14 2 = 3#2 := by
  generalize word.extractLsb' 14 2 = field
  revert field
  decide

/-- R62: the word masked is the `match` of the row it selects. -/
theorem and_opMask_eq_opMatch_wordOp (word : RequestWord) : word &&& opMask = opMatch (wordOp word) := by
  obtain ⟨encode, expand, transmit, issue⟩ := wordOp_eq word
  rcases opField_cases word with h | h | h | h
  · rw [and_opMask h, encode h]; decide
  · rw [and_opMask h, expand h]; decide
  · rw [and_opMask h, transmit h]; decide
  · rw [and_opMask h, issue h]; decide

/-- R62: the `match` of a row, taken as a word, selects that row. -/
theorem wordOp_opMatch (o : Op) : wordOp (opMatch o) = o := by
  cases o <;> decide

/-- R62: no two rows have the same `match`. -/
theorem opMatch_injective : Function.Injective opMatch := Function.LeftInverse.injective wordOp_opMatch

/-- The decoded operation is of the row the word selects. -/
@[simp] theorem op_decodeRequest (word : RequestWord) (opd : Bus) :
    (decodeRequest word opd).op = wordOp word := by
  unfold decodeRequest
  cases wordOp word <;> rfl

/-- R62: the word masked is the `match` of exactly the row of the decoded operation. -/
theorem and_opMask_eq_opMatch_iff (word : RequestWord) (opd : Bus) (o : Op) :
    word &&& opMask = opMatch o ↔ (decodeRequest word opd).op = o := by
  rw [and_opMask_eq_opMatch_wordOp, opMatch_injective.eq_iff, op_decodeRequest]

theorem op_eq_encode_iff (i : Instr) :
    i.op = .encode ↔ ∃ key device command, i = .encode key device command := by
  cases i <;> simp [Instr.op]

theorem op_eq_expand_iff (i : Instr) : i.op = .expand ↔ ∃ codeword, i = .expand codeword := by
  cases i <;> simp [Instr.op]

theorem op_eq_transmit_iff (i : Instr) : i.op = .transmit ↔ ∃ waveform, i = .transmit waveform := by
  cases i <;> simp [Instr.op]

theorem op_eq_issue_iff (i : Instr) : i.op = .issue ↔ ∃ token device, i = .issue token device := by
  cases i <;> simp [Instr.op]

/-- Settles O3: the rows have different `match` values, and the masked word is the one of the decoded operation. -/
theorem maskedWordSelectsOneRow : Obligations.MaskedWordSelectsOneRow := by
  intro word opd
  have row := and_opMask_eq_opMatch_iff word opd
  exact ⟨(row .encode).trans (op_eq_encode_iff _), (row .expand).trans (op_eq_expand_iff _),
    (row .transmit).trans (op_eq_transmit_iff _), (row .issue).trans (op_eq_issue_iff _)⟩

/-! ### The decoded operation of each row -/

section
variable {word : RequestWord}

theorem decodeRequest_of_opField_encode (h : word.extractLsb' 14 2 = 0#2) (opd : Bus) :
    decodeRequest word opd =
      .encode (keyEntries (keyBits word)) (devField word) (commandOfBit (cmdBit word)) := by
  obtain ⟨encode, -, -, -⟩ := wordOp_eq word
  simp only [decodeRequest, encode h]

theorem decodeRequest_of_opField_expand (h : word.extractLsb' 14 2 = 1#2) (opd : Bus) :
    decodeRequest word opd = .expand (unpackCodeword opd) := by
  obtain ⟨-, expand, -, -⟩ := wordOp_eq word
  simp only [decodeRequest, expand h]

theorem decodeRequest_of_opField_transmit (h : word.extractLsb' 14 2 = 2#2) (opd : Bus) :
    decodeRequest word opd = .transmit (unpackWaveform opd) := by
  obtain ⟨-, -, transmit, -⟩ := wordOp_eq word
  simp only [decodeRequest, transmit h]

theorem decodeRequest_of_opField_issue (h : word.extractLsb' 14 2 = 3#2) (opd : Bus) :
    decodeRequest word opd = .issue (tokenOfCode (tokField word)) (devField word) := by
  obtain ⟨-, -, -, issue⟩ := wordOp_eq word
  simp only [decodeRequest, issue h]

end

/-! ### The fields -/

/-- R59: the device field is the low byte of the word. -/
theorem devField_eq (word : RequestWord) : devField word = word.toNat % 256 := by
  simp [devField]

/-- R56: the token field is the six bits above the low byte. -/
theorem tokField_eq (word : RequestWord) : tokField word = word.toNat / 256 % 64 := by
  simp [tokField, Nat.shiftRight_eq_div_pow]

/-- R60: key entry i is bit 8 + i of the word. -/
theorem keyEntries_keyBits (word : RequestWord) :
    keyEntries (keyBits word) =
      [word.getLsbD 8, word.getLsbD 9, word.getLsbD 10, word.getLsbD 11, word.getLsbD 12] := by
  simp [keyEntries, keyBits]

theorem commandOfBit_eq (b : Bool) : commandOfBit b = if b then .on else .off := by
  cases b <;> rfl

/-- R36: bit j of symbol s of a packed codeword is bit 120 - 8s + j. -/
theorem packedSymbol_getLsbD (p : Bus) (s : Nat) {j : Nat} (hj : j < 8) :
    (packedSymbol p s).getLsbD j = p.getLsbD (120 - 8 * s + j) := by
  simp [packedSymbol, hj]

theorem unpackCodeword_getElem? (p : Bus) {s : Nat} (hs : s < 16) :
    (unpackCodeword p)[s]? = some (packedSymbol p s) := by
  simp [unpackCodeword, Config.cwLen, hs]

theorem unpackWaveform_getElem? (q : Bus) {n : Nat} (hn : n < 128) :
    (unpackWaveform q)[n]? = some (q.getLsbD (127 - n)) := by
  simp [unpackWaveform, Config.wfLen, hn]

/-- Settles O4: the decoded operation of each row, its operands read field by field. -/
theorem requestFieldsAreRead : Obligations.RequestFieldsAreRead := by
  intro word opd
  refine ⟨fun h => ?encode, fun h => ?expand, fun h => ?transmit, fun h => ?issue⟩
  case encode =>
    rw [decodeRequest_of_opField_encode h, keyEntries_keyBits, devField_eq, commandOfBit_eq, cmdBit]
  case expand =>
    exact ⟨_, decodeRequest_of_opField_expand h opd, unpackCodeword_length opd,
      fun s hs => ⟨_, unpackCodeword_getElem? opd hs, fun _ hj => packedSymbol_getLsbD opd s hj⟩⟩
  case transmit =>
    exact ⟨_, decodeRequest_of_opField_transmit h opd, unpackWaveform_length opd,
      fun _ hn => unpackWaveform_getElem? opd hn⟩
  case issue =>
    rw [decodeRequest_of_opField_issue h, tokField_eq, devField_eq, tokenOfCode]

/-! ### The bits that are not examined -/

/-- R59: `encode` examines the five low bits of the device only. -/
theorem encodeCall_device_add_mul (key : List Bool) (device k : Nat) (command : Command) :
    encodeCall key (32 * k + device) command = encodeCall key device command := by
  simp only [encodeCall, buildCodeword, deviceBits_add_mul]

theorem exec_encode_device_add_mul (key : List Bool) (device k : Nat) (command : Command) (s : State) :
    exec (.encode key (32 * k + device) command) s = exec (.encode key device command) s := by
  simp only [exec, execEncode, encodeCall_device_add_mul]

/-- ISSUE hands its device to the encoder and to nothing else. -/
theorem exec_issue_device_add_mul (token : Token) (device k : Nat) (s : State) :
    exec (.issue token (32 * k + device)) s = exec (.issue token device) s := by
  simp only [exec, execIssue, issueWaveform, encodeCall_device_add_mul]

/-- R64: words of EXPAND or TRANSMIT that agree in their two highest bits decode alike. -/
theorem decodeRequest_congr_word {word word' : RequestWord} (opd : Bus)
    (same : word.extractLsb' 14 2 = word'.extractLsb' 14 2)
    (h : word.extractLsb' 14 2 = 1#2 ∨ word.extractLsb' 14 2 = 2#2) :
    decodeRequest word opd = decodeRequest word' opd := by
  rcases h with h | h
  · rw [decodeRequest_of_opField_expand h, decodeRequest_of_opField_expand (same.symm.trans h)]
  · rw [decodeRequest_of_opField_transmit h, decodeRequest_of_opField_transmit (same.symm.trans h)]

/-- R64: the long operand of ENCODE and ISSUE is not examined. -/
theorem decodeRequest_congr_opd {word : RequestWord} (opd opd' : Bus)
    (h : word.extractLsb' 14 2 = 0#2 ∨ word.extractLsb' 14 2 = 3#2) :
    decodeRequest word opd = decodeRequest word opd' := by
  rcases h with h | h
  · rw [decodeRequest_of_opField_encode h, decodeRequest_of_opField_encode h]
  · rw [decodeRequest_of_opField_issue h, decodeRequest_of_opField_issue h]

/-- Settles O5: one lemma for each kind of ignored bit. -/
theorem ignoredBitsChangeNothing : Obligations.IgnoredBitsChangeNothing :=
  ⟨exec_encode_device_add_mul, exec_issue_device_add_mul,
    fun _ _ opd same h => decodeRequest_congr_word opd same h,
    fun _ opd opd' h => decodeRequest_congr_opd opd opd' h⟩

end Sys2Proof.Machine
end

