-- ==== Sys2Proof/Proofs/SymbolCodec.lean ====
section
/-! PROOFS. The symbol codec (spec 40): what governs each of the entries 0 to 11 of a codeword (R71 to R73). -/

namespace Sys2Proof.Machine

/-! ### The bits of a device -/

/-- The number of a list of bits has the list's entries as its bits. -/
theorem bitsToNat_bit_iff (bs : List Bool) :
    ∀ i, bitsToNat bs / 2 ^ i % 2 = 1 ↔ bs[i]? = some true := by
  induction bs with
  | nil => intro i; simp [bitsToNat]
  | cons b bs ih =>
    intro i
    have hb : b.toNat < 2 := b.toNat_lt
    cases i with
    | zero =>
      have low : bitsToNat (b :: bs) % 2 = b.toNat := by simp only [bitsToNat]; omega
      cases b <;> simp [low]
    | succ i =>
      have high : bitsToNat (b :: bs) / 2 = bitsToNat bs := by simp only [bitsToNat]; omega
      rw [pow_succ', ← Nat.div_div_eq_div_mul, high, ih i, List.getElem?_cons_succ]

theorem deviceBits_getElem? (device : Nat) {i : Nat} (hi : i < 5) :
    (deviceBits device)[i]? = some (deviceBit device i) := by
  interval_cases i <;> rfl

/-! ### The entries of a codeword -/

section
variable {key : List Bool} (hkey : key.length = 5) (device : Nat) (command : Command)
include hkey

/-- R52: the symbols of the key and of the device, the command pair, the trailer. -/
theorem buildCodeword_eq_append :
    buildCodeword key device command =
      (key ++ deviceBits device).map (fun x => if x then Config.long else Config.short) ++
      (if command = .on then [Config.long, Config.short] else [Config.short, Config.long]) ++
      Config.trailer := by
  obtain ⟨a, b, c, d, e, rfl⟩ := eq_five_of_length hkey
  exact buildCodeword_five a b c d e device command

/-- The entries 0 to 9 are the symbols of the ten bits. -/
theorem buildCodeword_getElem?_of_lt_ten {j : Nat} (hj : j < 10) :
    (buildCodeword key device command)[j]? =
      (key ++ deviceBits device)[j]?.map (fun x => if x then Config.long else Config.short) := by
  rw [buildCodeword_eq_append hkey, List.append_assoc,
    List.getElem?_append_left (by simpa [hkey] using hj), List.getElem?_map]

theorem buildCodeword_getElem?_key {i : Nat} (hi : i < 5) :
    (buildCodeword key device command)[i]? =
      some (if key[i]? = some true then Config.long else Config.short) := by
  have inKey : i < key.length := hkey ▸ hi
  rw [buildCodeword_getElem?_of_lt_ten hkey device command (by omega),
    List.getElem?_append_left inKey, List.getElem?_eq_getElem inKey]
  simp

theorem buildCodeword_getElem?_device {i : Nat} (hi : i < 5) :
    (buildCodeword key device command)[5 + i]? =
      some (if device / 2 ^ i % 2 = 1 then Config.long else Config.short) := by
  rw [buildCodeword_getElem?_of_lt_ten hkey device command (by omega),
    List.getElem?_append_right (by omega), hkey, Nat.add_sub_cancel_left, deviceBits_getElem? device hi]
  simp [deviceBit]

/-- OFF leaves the command pair as `BASE` has it. -/
theorem buildCodeword_off_pair :
    (buildCodeword key device .off)[10]? = some Config.short ∧
      (buildCodeword key device .off)[11]? = some Config.long := by
  obtain ⟨a, b, c, d, e, rfl⟩ := eq_five_of_length hkey
  rw [buildCodeword_five]
  exact ⟨rfl, rfl⟩

end

/-- R70: ON overwrites the command pair of the codeword of OFF. -/
theorem buildCodeword_on (key : List Bool) (device : Nat) :
    buildCodeword key device .on =
      ((buildCodeword key device .off).set 10 Config.long).set 11 Config.short := rfl

theorem buildCodeword_on_pair (key : List Bool) (device : Nat) :
    (buildCodeword key device .on)[10]? = some Config.long ∧
      (buildCodeword key device .on)[11]? = some Config.short := by
  simp [buildCodeword_on]

theorem buildCodeword_on_getElem?_of_ne (key : List Bool) (device : Nat) {j : Nat} (h10 : j ≠ 10)
    (h11 : j ≠ 11) : (buildCodeword key device .on)[j]? = (buildCodeword key device .off)[j]? := by
  rw [buildCodeword_on, List.getElem?_set_ne h11.symm, List.getElem?_set_ne h10.symm]

/-! ### The three laws -/

/-- Settles O7: entry i of the first five is the symbol of key entry i. -/
theorem keyEntriesGovernSymbols : Obligations.KeyEntriesGovernSymbols :=
  fun _ device command hkey =>
    ⟨_, encodeCall_eq_ok hkey device command, fun _ hi => buildCodeword_getElem?_key hkey device command hi⟩

/-- Settles O8: the entries after the key's are the symbols of the device's bits, and the device of a set of
channels is the number whose bits they are. -/
theorem deviceBitsGovernSymbols : Obligations.DeviceBitsGovernSymbols := by
  constructor
  · intro key device command hkey
    exact ⟨_, encodeCall_eq_ok hkey device command,
      fun _ hi => buildCodeword_getElem?_device hkey device command hi⟩
  · intro channels hlen
    have bound : bitsToNat channels < 2 ^ 5 := hlen ▸ bitsToNat_lt channels
    exact ⟨bitsToNat channels, bound, fun i _ => bitsToNat_bit_iff channels i⟩

/-- Settles O9: OFF keeps the pair of `BASE`, ON overwrites the pair and nothing else. -/
theorem commandTogglesThePairAlone : Obligations.CommandTogglesThePairAlone := by
  intro key device hkey
  obtain ⟨off10, off11⟩ := buildCodeword_off_pair hkey device
  obtain ⟨on10, on11⟩ := buildCodeword_on_pair key device
  exact ⟨_, _, encodeCall_eq_ok hkey device .off, encodeCall_eq_ok hkey device .on,
    off10, off11, on10, on11, fun _ h10 h11 => buildCodeword_on_getElem?_of_ne key device h10 h11⟩

end Sys2Proof.Machine
end

