-- ==== Sys2Proof/Proofs/PulseExpander.lean ====
section
/-! PROOFS. The pulse expander (spec 41): which codewords expand, and to how many levels (R80, R81). -/

namespace Sys2Proof.Machine

variable {cw : Codeword} {w : Waveform}

theorem expandCall_eq_error (h : cw.length ≠ 16) : expandCall cw = .error (.invalidCodeword cw.length) :=
  if_neg h

/-- All a successful EXPAND can be (R80): 16 symbols, expanded in order. -/
theorem expandCall_eq_ok_iff : expandCall cw = .ok w ↔ cw.length = 16 ∧ w = expandLevels cw := by
  by_cases h : cw.length = 16
  · simp [expandCall_eq_ok h, h, eq_comm]
  · simp [expandCall_eq_error h, h]

/-- Settles O15: a codeword expands exactly when it has 16 symbols, and each symbol gives eight levels. -/
theorem expandLengthLaw : Obligations.ExpandLengthLaw := by
  refine ⟨fun cw w expands => ?ratio, fun cw h => ⟨_, expandCall_eq_ok h⟩, fun cw h => expandCall_eq_error h⟩
  case ratio =>
    obtain ⟨sixteen, rfl⟩ := expandCall_eq_ok_iff.mp expands
    have eightEach := expandLevels_length cw
    exact ⟨eightEach, by omega⟩

end Sys2Proof.Machine
end

