-- ==== Sys2Proof/Proofs/Exceptions.lean ====
section
/-! PROOFS. Exceptions (spec 60): where `InvalidCodeword` and `InvalidCommand` come from (R117, R119). -/

namespace Sys2Proof.Machine

/-! ### The faults of exec -/

/-- The transmit step starts a train or is refused. -/
theorem startTrain_ne_fault (s : State) (w : Waveform) (f : Fault) : s.startTrain w ≠ .fault f := by
  unfold State.startTrain
  split
  · nofun
  · split <;> nofun

theorem execEncode_ne_fault (key : List Bool) (device : Nat) (command : Command) (s : State) (f : Fault) :
    execEncode key device command s ≠ .fault f := by
  unfold execEncode
  split
  · nofun
  · split
    case h_1 failed => cases encodeCall_error failed; nofun
    case h_2 => nofun

/-- R117: of what EXPAND does, the length check alone is a fault. -/
theorem execExpand_eq_fault_iff {cw : Codeword} {s : State} {f : Fault} :
    execExpand cw s = .fault f ↔ s.fatal = false ∧ cw.length ≠ 16 ∧ f = .invalidCodeword cw.length := by
  unfold execExpand
  cases hfatal : s.fatal
  · by_cases sixteen : cw.length = 16
    · simp [expandCall_eq_ok sixteen, sixteen]
    · simp [expandCall_eq_error sixteen, sixteen, eq_comm]
  · simp

theorem execTransmit_ne_fault (w : Waveform) (s : State) (f : Fault) : execTransmit w s ≠ .fault f := by
  unfold execTransmit
  split
  · nofun
  · exact startTrain_ne_fault s w f

/-- The codeword of ISSUE is one that ENCODE built, so its length check cannot fail. -/
theorem execIssue_ne_fault (token : Token) (device : Nat) (s : State) (f : Fault) :
    execIssue token device s ≠ .fault f := by
  unfold execIssue
  split
  · nofun
  · split
    case h_1 => nofun
    case h_2 =>
      split
      case h_1 failed => cases issueWaveform_error failed; nofun
      case h_2 w _ => exact startTrain_ne_fault s w f

/-- R117: the one fault of exec is that of EXPAND on a codeword of another length. -/
theorem exec_eq_fault_iff {i : Instr} {s : State} {f : Fault} :
    exec i s = .fault f ↔
      ∃ cw, i = .expand cw ∧ s.fatal = false ∧ cw.length ≠ 16 ∧ f = .invalidCodeword cw.length := by
  cases i with
  | encode key device command => simp [exec, execEncode_ne_fault]
  | expand cw => simp [exec, execExpand_eq_fault_iff]
  | transmit w => simp [exec, execTransmit_ne_fault]
  | issue token device => simp [exec, execIssue_ne_fault]

/-! ### The faults of a step -/

/-- R37: the codeword bus carries exactly 16 symbols. -/
theorem length_of_decodeRequest_eq_expand {word : RequestWord} {opd : Bus} {cw : Codeword}
    (h : decodeRequest word opd = .expand cw) : cw.length = 16 := by
  unfold decodeRequest at h
  split at h <;> cases h
  exact unpackCodeword_length opd

/-- R37: no request that can be presented stops the machine with a fault. -/
theorem exec_decodeRequest_ne_fault (word : RequestWord) (opd : Bus) (s : State) (f : Fault) :
    exec (decodeRequest word opd) s ≠ .fault f := by
  intro h
  obtain ⟨cw, decoded, -, other, -⟩ := exec_eq_fault_iff.mp h
  exact other (length_of_decodeRequest_eq_expand decoded)

theorem idleAct_ne_fault (s : State) (f : Fault) : s.idleAct ≠ .fault f := by
  unfold State.idleAct
  split
  · exact exec_decodeRequest_ne_fault _ _ s f
  · nofun

theorem levelAccess_fault {s : State} {f : Fault} (h : s.levelAccess = .fault f) : f = .noSuchLevel := by
  unfold State.levelAccess at h
  split at h
  · cases h; rfl
  · split at h <;> cases h

theorem phaseAct_fault {s : State} {f : Fault} (h : s.phaseAct = .fault f) : f = .noSuchLevel := by
  unfold State.phaseAct at h
  split at h
  case h_2 => exact absurd h (idleAct_ne_fault s f)
  case h_8 => exact levelAccess_fault h
  all_goals cases h

theorem step_eq_fault {s : State} {f : Fault} : step s = .fault f ↔ s.act = .fault f := by
  unfold step afterAct
  cases s.act <;> simp

/-- The one fault of a step is the transmitter's, for a position outside the waveform. -/
theorem step_fault {s : State} {f : Fault} (h : step s = .fault f) : f = .noSuchLevel := by
  have acted := step_eq_fault.mp h
  cases hr : s.pins.rst with
  | true => rw [act_of_rst hr] at acted; cases acted
  | false => rw [act_of_not_rst hr] at acted; exact phaseAct_fault acted

/-- Settles O21: EXPAND's length check is the one fault of exec, and a step never meets it because the codeword bus
carries 16 symbols. -/
theorem expandRejectsOtherLengths : Obligations.ExpandRejectsOtherLengths := by
  refine ⟨fun cw s hfatal other => ?raised, fun i s n h => ?byExpandAlone, fun s n h => ?byNoStep⟩
  case raised => exact exec_eq_fault_iff.mpr ⟨cw, rfl, hfatal, other, rfl⟩
  case byExpandAlone =>
    obtain ⟨cw, rfl, hfatal, other, hn⟩ := exec_eq_fault_iff.mp h
    cases hn
    exact ⟨cw, rfl, rfl, other, hfatal⟩
  case byNoStep => cases step_fault h

/-! ### `InvalidCommand` -/

/-- R107: on a block that is not fatal the token is the first check of ISSUE. -/
theorem exec_issue_unrecognised {s : State} (hfatal : s.fatal = false) (code device : Nat) :
    exec (.issue (.unrecognised code) device) s =
      .next (s.raise (.invalidCommand (.unrecognised code))) := by
  simp [exec, execIssue, hfatal, tokenCommand]

/-- Settles O31: of the answers exec can give, the one with `InvalidCommand` is that of an ISSUE with an unrecognised
token, and an answer leaves `STATUS.BUSY` and `TX.WF` as they were; a train that starts is no answer. -/
theorem invalidCommandComesFromIssueAlone : Obligations.InvalidCommandComesFromIssueAlone := by
  constructor
  · intro i s t left token h answered
    obtain ⟨r, early, rfl⟩ | ⟨-, w, -, -, rfl⟩ := exec_kinds h
    · obtain ⟨-, rfl⟩ := Phase.respond.inj answered
      cases early with
      | token code device issued => exact ⟨nofun, nofun, ⟨device, issued⟩, rfl, rfl⟩
    · cases answered
  · intro token device s hfatal notOn notOff
    cases token with
    | off => exact absurd rfl notOff
    | on => exact absurd rfl notOn
    | unrecognised code => exact ⟨_, _, exec_issue_unrecognised hfatal code device, rfl⟩

end Sys2Proof.Machine
end

section
/-! PROOFS. What a step reads of the input pins (spec 30 R55, 70 R152): the block's action carries other pins along
unread, wherever it does not look at the pin that changed. -/

namespace Sys2Proof.Machine

/-! ### Outcomes under other pins -/

/-- The same outcome, its next state standing under other input pins. -/
def outcomeWithPins (p : Pins) : Host.Outcome State Fault Refusal → Host.Outcome State Fault Refusal
  | .next t => .next (t.withPins p)
  | .fault f => .fault f
  | .refused r => .refused r

/-- The surroundings' move after an action that carried other pins along. -/
theorem agreeUpToPins_afterAct (p : Pins) (o : Host.Outcome State Fault Refusal) :
    agreeUpToPins (afterAct o) (afterAct (outcomeWithPins p o)) := by
  cases o with
  | next t => exact agreeUpToPins_takePins t p
  | fault f => exact rfl
  | refused r => exact rfl

/-! ### What other pins leave as it is -/

@[simp] theorem State.withPins_cfgKey (s : State) (p : Pins) : (s.withPins p).cfgKey = s.cfgKey := rfl

@[simp] theorem State.withPins_cfgPw (s : State) (p : Pins) : (s.withPins p).cfgPw = s.cfgPw := rfl

@[simp] theorem State.withPins_cfgRc (s : State) (p : Pins) : (s.withPins p).cfgRc = s.cfgRc := rfl

@[simp] theorem State.withPins_fatal (s : State) (p : Pins) : (s.withPins p).fatal = s.fatal := rfl

@[simp] theorem State.withPins_txWf (s : State) (p : Pins) : (s.withPins p).txWf = s.txWf := rfl

@[simp] theorem State.withPins_txI (s : State) (p : Pins) : (s.withPins p).txI = s.txI := rfl

@[simp] theorem State.withPins_phase (s : State) (p : Pins) : (s.withPins p).phase = s.phase := rfl

@[simp] theorem State.withPins_pins (s : State) (p : Pins) : (s.withPins p).pins = p := rfl

/-! ### The execution of a request reads no pin -/

theorem withPins_startTrain (s : State) (p : Pins) (w : Waveform) :
    (s.withPins p).startTrain w = outcomeWithPins p (s.startTrain w) := by
  unfold State.startTrain
  rw [State.withPins_cfgRc, State.withPins_cfgPw]
  split
  · rfl
  · split <;> rfl

theorem withPins_stageError (s : State) (p : Pins) (e : Error) :
    (s.withPins p).stageError e = outcomeWithPins p (s.stageError e) := by
  cases e <;> rfl

theorem withPins_execEncode (key : List Bool) (device : Nat) (command : Command) (s : State) (p : Pins) :
    execEncode key device command (s.withPins p) = outcomeWithPins p (execEncode key device command s) := by
  unfold execEncode
  rw [State.withPins_fatal]
  split
  · rfl
  · split
    · exact withPins_stageError s p _
    · rfl

theorem withPins_execExpand (cw : Codeword) (s : State) (p : Pins) :
    execExpand cw (s.withPins p) = outcomeWithPins p (execExpand cw s) := by
  unfold execExpand
  rw [State.withPins_fatal]
  split
  · rfl
  · split
    · exact withPins_stageError s p _
    · rfl

theorem withPins_execTransmit (w : Waveform) (s : State) (p : Pins) :
    execTransmit w (s.withPins p) = outcomeWithPins p (execTransmit w s) := by
  unfold execTransmit
  rw [State.withPins_fatal]
  split
  · rfl
  · exact withPins_startTrain s p w

theorem withPins_execIssue (token : Token) (device : Nat) (s : State) (p : Pins) :
    execIssue token device (s.withPins p) = outcomeWithPins p (execIssue token device s) := by
  unfold execIssue
  rw [State.withPins_fatal, State.withPins_cfgKey]
  split
  · rfl
  · split
    · rfl
    · split
      · exact withPins_stageError s p _
      · exact withPins_startTrain s p _

/-- R47: the request is in the operation; what the pins show does not matter to it. -/
theorem withPins_exec (i : Instr) (s : State) (p : Pins) :
    exec i (s.withPins p) = outcomeWithPins p (exec i s) := by
  cases i with
  | encode key device command => exact withPins_execEncode key device command s p
  | expand cw => exact withPins_execExpand cw s p
  | transmit w => exact withPins_execTransmit w s p
  | issue token device => exact withPins_execIssue token device s p

/-! ### An access reads the answer of the line alone -/

theorem withPins_guardAccess {s : State} {p : Pins} (h : p.lineFault = s.pins.lineFault) :
    (s.withPins p).guardAccess = s.guardAccess.withPins p := by
  unfold State.guardAccess
  rw [withPins_setLevel h, State.withPins_pins, h, State.withPins_txWf]
  split
  · rfl
  · split <;> rfl

theorem withPins_levelAccess {s : State} {p : Pins} (h : p.lineFault = s.pins.lineFault) :
    (s.withPins p).levelAccess = outcomeWithPins p s.levelAccess := by
  unfold State.levelAccess
  rw [State.withPins_pins, h, State.withPins_txWf, State.withPins_txI]
  split
  · rfl
  · rw [withPins_setLevel h]
    split <;> rfl

theorem withPins_holdTick (s : State) (p : Pins) : (s.withPins p).holdTick = s.holdTick.withPins p := by
  rcases Nat.lt_or_ge 1 s.txH with more | last
  · rw [holdTick_more more, holdTick_more (by exact more)]
    rfl
  · rw [holdTick_over last, holdTick_over (by exact last)]
    exact withPins_advance s.endHold p

/-! ### The startup record -/

/-- The pins as they are, but for another startup record (R140). -/
def State.pinsWithRecord (s : State) (c : StartupRecord) : Pins := { s.pins with cfg0 := c }

/-- R55: acceptance looks at `rst` and at the request's pins. -/
theorem withRecord_idleAct (s : State) (c : StartupRecord) :
    (s.withPins (s.pinsWithRecord c)).idleAct = outcomeWithPins (s.pinsWithRecord c) s.idleAct := by
  have valid : (s.pinsWithRecord c).reqValid = s.pins.reqValid := rfl
  have ready : (s.withPins (s.pinsWithRecord c)).reqReady = s.reqReady := rfl
  unfold State.idleAct
  rw [State.withPins_pins, valid, ready]
  split
  · exact withPins_exec (decodeRequest s.pins.reqWord s.pins.reqOpd) s _
  · rfl

/-- R152: of the control points, startup alone reads the record. -/
theorem withRecord_phaseAct {s : State} (hp : s.phase ≠ .reset) (c : StartupRecord) :
    (s.withPins (s.pinsWithRecord c)).phaseAct = outcomeWithPins (s.pinsWithRecord c) s.phaseAct := by
  unfold State.phaseAct
  rw [State.withPins_phase]
  split
  case h_1 startup => exact absurd startup hp
  case h_2 => exact withRecord_idleAct s c
  case h_6 => exact congrArg Host.Outcome.next (withPins_guardAccess rfl)
  case h_8 => exact withPins_levelAccess rfl
  case h_9 => exact congrArg Host.Outcome.next (withPins_holdTick s _)
  all_goals rfl

/-- R124, R152: reset comes before everything and reads no record either. -/
theorem withRecord_act {s : State} (h : s.pins.rst = true ∨ s.phase ≠ .reset) (c : StartupRecord) :
    (s.withPins (s.pinsWithRecord c)).act = outcomeWithPins (s.pinsWithRecord c) s.act := by
  cases hr : s.pins.rst with
  | true => rw [act_of_rst hr, act_of_rst (by exact hr)]; rfl
  | false =>
    have hp : s.phase ≠ .reset := h.resolve_left (by simp [hr])
    rw [act_of_not_rst hr, act_of_not_rst (by exact hr)]
    exact withRecord_phaseAct (s := s.clearStrobes) hp c

/-- Settles O45: outside startup the action carries another record along unread, and the surroundings' move
replaces the pins alike. -/
theorem recordIsReadAtStartupOnly : Obligations.RecordIsReadAtStartupOnly := by
  intro s c h
  change agreeUpToPins (afterAct s.act) (afterAct (s.withPins (s.pinsWithRecord c)).act)
  rw [withRecord_act h c]
  exact agreeUpToPins_afterAct (s.pinsWithRecord c) s.act

end Sys2Proof.Machine
end

section
/-! PROOFS. The packed forms (spec 20 R33 to R36, 41): where each symbol and each level stands on the buses, and that
packing loses nothing. -/

namespace Sys2Proof.Machine

/-! ### The packed forms, bit by bit -/

/-- R33: the order of the levels of a codeword, level by level. -/
theorem expandLevels_getElem?_div_mod {cw : Codeword} {n : Nat} (hn : n < 8 * cw.length) :
    ∃ sym, cw[n / 8]? = some sym ∧ (expandLevels cw)[n]? = some (sym.getLsbD (7 - n % 8)) := by
  have at_ := expandLevels_getElem? cw (n / 8) (n % 8) (by omega) (by omega)
  rwa [Nat.div_add_mod] at at_

/-- R36: entry n of a packed waveform is bit 127 - n. -/
theorem getElem?_eq_packWaveform_getLsbD {w : Waveform} (hw : w.length = 128) {n : Nat} (hn : n < 128) :
    w[n]? = some ((packWaveform w).getLsbD (127 - n)) := by
  have inside : 127 - n < 128 := by omega
  rw [testBit_foldl_levels w n (by omega), packWaveform, BitVec.getLsbD_ofNat, hw]
  simp [inside]

/-- R36: the packed waveform of an expanded codeword is the packed codeword, Q = P. -/
theorem packWaveform_expandLevels (cw : Codeword) : packWaveform (expandLevels cw) = packCodeword cw := by
  rw [packWaveform, packCodeword, foldl_expandLevels]

/-- R36: bit j of symbol s stands at bit 120 - 8s + j of the packed codeword. -/
theorem packCodeword_getLsbD {cw : Codeword} (hcw : cw.length = 16) {s j : Nat} (hs : s < 16) (hj : j < 8) :
    ∃ sym, cw[s]? = some sym ∧ (packCodeword cw).getLsbD (120 - 8 * s + j) = sym.getLsbD j := by
  obtain ⟨sym, symbol, level⟩ := expandLevels_getElem? cw s (7 - j) (by omega) (by omega)
  have packed : (expandLevels cw)[8 * s + (7 - j)]? =
      some ((packWaveform (expandLevels cw)).getLsbD (127 - (8 * s + (7 - j)))) :=
    getElem?_eq_packWaveform_getLsbD (by simp [hcw]) (by omega)
  rw [level, packWaveform_expandLevels, Option.some_inj, show 7 - (7 - j) = j by omega,
    show 127 - (8 * s + (7 - j)) = 120 - 8 * s + j by omega] at packed
  exact ⟨sym, symbol, packed.symm⟩

/-! ### Unpacking what was packed -/

theorem unpackWaveform_packWaveform {w : Waveform} (hw : w.length = 128) :
    unpackWaveform (packWaveform w) = w := by
  apply List.ext_getElem?
  intro n
  rcases Nat.lt_or_ge n 128 with hn | hn
  · rw [unpackWaveform_getElem? _ hn, getElem?_eq_packWaveform_getLsbD hw hn]
  · rw [List.getElem?_eq_none (by simpa using hn), List.getElem?_eq_none (by omega)]

theorem unpackCodeword_packCodeword {cw : Codeword} (hcw : cw.length = 16) :
    unpackCodeword (packCodeword cw) = cw := by
  apply List.ext_getElem?
  intro s
  rcases Nat.lt_or_ge s 16 with hs | hs
  · have inside : s < cw.length := by omega
    rw [unpackCodeword_getElem? _ hs, List.getElem?_eq_getElem inside, Option.some_inj]
    apply BitVec.eq_of_getLsbD_eq
    intro j hj
    obtain ⟨sym, symbol, bit⟩ := packCodeword_getLsbD hcw hs hj
    rw [List.getElem?_eq_getElem inside, Option.some_inj] at symbol
    rw [packedSymbol_getLsbD _ _ hj, bit, symbol]
  · rw [List.getElem?_eq_none (by simpa using hs), List.getElem?_eq_none (by omega)]

theorem packCodeword_injOn {cw cw' : Codeword} (h : cw.length = 16) (h' : cw'.length = 16)
    (packed : packCodeword cw = packCodeword cw') : cw = cw' := by
  rw [← unpackCodeword_packCodeword h, packed, unpackCodeword_packCodeword h']

/-- R36: the bus of a codeword read off the port is that codeword's packed form. -/
theorem packCodeword_unpackCodeword (p : Bus) : packCodeword (unpackCodeword p) = p := by
  apply BitVec.eq_of_getLsbD_eq
  intro k hk
  obtain ⟨sym, symbol, bit⟩ :=
    packCodeword_getLsbD (unpackCodeword_length p) (s := 15 - k / 8) (j := k % 8) (by omega) (by omega)
  rw [unpackCodeword_getElem? p (by omega), Option.some_inj] at symbol
  rw [← symbol, packedSymbol_getLsbD _ _ (by omega)] at bit
  rwa [show 120 - 8 * (15 - k / 8) + k % 8 = k by omega] at bit

/-! ### The laws of EXPAND -/

/-- Settles O16: the order of the levels, by symbol and bit and by level. -/
theorem expandBitOrder : Obligations.ExpandBitOrder := by
  intro cw hcw
  exact ⟨_, expandCall_eq_ok hcw, fun s j hs hj => expandLevels_getElem? cw s j (by omega) hj,
    fun n hn => expandLevels_getElem?_div_mod (by omega)⟩

/-- Settles O17: each level is a bit of the one number that both packed forms are. -/
theorem packedWaveformIsPackedCodeword : Obligations.PackedWaveformIsPackedCodeword := by
  intro cw hcw
  exact ⟨fun s j hs hj => packCodeword_getLsbD hcw hs hj, _, expandCall_eq_ok hcw,
    fun n hn => getElem?_eq_packWaveform_getLsbD (by simp [hcw]) hn, packWaveform_expandLevels cw⟩

/-- Settles O18: equal waveforms have equal packed forms, which are the packed codewords. -/
theorem expandIsInjective : Obligations.ExpandIsInjective := by
  intro cw cw' h h' expands
  rw [expandCall_eq_ok h, expandCall_eq_ok h', Except.ok.injEq] at expands
  apply packCodeword_injOn h h'
  rw [← packWaveform_expandLevels, expands, packWaveform_expandLevels]

end Sys2Proof.Machine
end

section
/-! PROOFS. The encoder of requests (spec 30 R56, R57, R59, R60): decoding gives back what was encoded, and whatever is
decoded can be encoded. -/

namespace Sys2Proof.Machine

/-! ### The fields of an encoded word -/

theorem tokenOfCode_tokenCode {token : Token} (h : token.wellFormed = true) :
    tokenOfCode (tokenCode token) = token := by
  cases token with
  | off => rfl
  | on => rfl
  | unrecognised code =>
    obtain ⟨low, -⟩ := (unrecognised_wellFormed_iff code).mp h
    rw [tokenCode, tokenOfCode, if_neg (by omega), if_neg (by omega)]

theorem tokenCode_lt {token : Token} (h : token.wellFormed = true) : tokenCode token < 64 := by
  cases token with
  | off => decide
  | on => decide
  | unrecognised code => exact ((unrecognised_wellFormed_iff code).mp h).2

theorem tokenOfCode_wellFormed {code : Nat} (h : code < 64) : (tokenOfCode code).wellFormed = true := by
  unfold tokenOfCode
  split
  · rfl
  · split
    · rfl
    · exact (unrecognised_wellFormed_iff code).mpr ⟨by omega, h⟩

@[simp] theorem commandOfBit_commandBit (command : Command) : commandOfBit (commandBit command) = command := by
  cases command <;> rfl

/-- R60: the key field whose bits are the entries of a key. -/
theorem keyEntries_ofNat_bitsToNat {key : List Bool} (h : key.length = 5) :
    keyEntries (BitVec.ofNat 5 (bitsToNat key)) = key := by
  obtain ⟨a, b, c, d, e, rfl⟩ := eq_five_of_length h
  revert a b c d e
  decide

/-- R62: an encoded word selects the row of its operation. -/
theorem wordOp_encodeWord (i : Instr) : wordOp (encodeWord i) = i.op := by
  have row : encodeWord i &&& opMask = opMatch i.op := by
    cases i with
    | encode key device command => exact Laws.OpField.encode key device command
    | expand cw => exact Laws.OpField.expand cw
    | transmit w => exact Laws.OpField.transmit w
    | issue token device => exact Laws.OpField.issue token device
  exact opMatch_injective ((and_opMask_eq_opMatch_wordOp _).symm.trans row)

section
variable (key : List Bool) (device : Nat) (command : Command)

/-- R56: the word of ENCODE as a sum of its fields. -/
theorem toNat_encodeWord_encode :
    (encodeWord (.encode key device command)).toNat =
      8192 * (commandBit command).toNat + 256 * (bitsToNat key % 32) + device % 256 := by
  have cmd : (commandBit command).toNat < 2 := Bool.toNat_lt _
  rw [encodeWord, BitVec.toNat_ofNat]
  omega

theorem keyBits_encodeWord : keyBits (encodeWord (.encode key device command)) = BitVec.ofNat 5 (bitsToNat key) := by
  apply BitVec.eq_of_toNat_eq
  rw [keyBits, BitVec.extractLsb'_toNat, Nat.shiftRight_eq_div_pow, toNat_encodeWord_encode, BitVec.toNat_ofNat]
  omega

theorem cmdBit_encodeWord : cmdBit (encodeWord (.encode key device command)) = commandBit command := by
  rw [cmdBit, ← BitVec.testBit_toNat, toNat_encodeWord_encode, Nat.testBit_eq_decide_div_mod_eq]
  cases command <;> simp [commandBit] <;> omega

theorem devField_encodeWord_encode {device : Nat} (h : device < 256) :
    devField (encodeWord (.encode key device command)) = device := by
  rw [devField_eq, toNat_encodeWord_encode]
  omega

end

/-- R56: the word of ISSUE as a sum of its fields. -/
theorem toNat_encodeWord_issue (token : Token) (device : Nat) :
    (encodeWord (.issue token device)).toNat = 49152 + 256 * (tokenCode token % 64) + device % 256 := by
  rw [encodeWord, BitVec.toNat_ofNat]
  omega

/-! ### Decoding an encoded operation -/

theorem decodeRequest_encodeWord_encode {key : List Bool} {device : Nat} (hkey : key.length = 5)
    (hdev : device < 256) (command : Command) (opd : Bus) :
    decodeRequest (encodeWord (.encode key device command)) opd = .encode key device command := by
  simp only [decodeRequest, wordOp_encodeWord, Instr.op, keyBits_encodeWord, keyEntries_ofNat_bitsToNat hkey,
    cmdBit_encodeWord, devField_encodeWord_encode key command hdev, commandOfBit_commandBit]

theorem decodeRequest_encodeWord_issue {token : Token} {device : Nat} (htok : token.wellFormed = true)
    (hdev : device < 256) (opd : Bus) :
    decodeRequest (encodeWord (.issue token device)) opd = .issue token device := by
  have code := tokenCode_lt htok
  have tok : tokField (encodeWord (.issue token device)) = tokenCode token := by
    rw [tokField_eq, toNat_encodeWord_issue]; omega
  have dev : devField (encodeWord (.issue token device)) = device := by
    rw [devField_eq, toNat_encodeWord_issue]; omega
  simp only [decodeRequest, wordOp_encodeWord, Instr.op, tok, dev, tokenOfCode_tokenCode htok]

/-- Settles O1: each operand is read back from the field or the bus it was written to. -/
theorem encodedRequestDecodesBack : Obligations.EncodedRequestDecodesBack := by
  intro i hi
  cases i with
  | encode key device command =>
    obtain ⟨hkey, hdev⟩ := (encode_wellFormed_iff key device command).mp hi
    exact decodeRequest_encodeWord_encode hkey hdev command _
  | expand cw =>
    have packed := unpackCodeword_packCodeword ((expand_wellFormed_iff cw).mp hi)
    simp only [encodeOpd, decodeRequest, wordOp_encodeWord, Instr.op, packed]
  | transmit w =>
    have packed := unpackWaveform_packWaveform ((transmit_wellFormed_iff w).mp hi)
    simp only [encodeOpd, decodeRequest, wordOp_encodeWord, Instr.op, packed]
  | issue token device =>
    obtain ⟨htok, hdev⟩ := (issue_wellFormed_iff token device).mp hi
    exact decodeRequest_encodeWord_issue htok hdev _

/-! ### Whatever is decoded -/

theorem devField_lt (word : RequestWord) : devField word < 256 := by
  rw [devField_eq]; omega

theorem tokField_lt (word : RequestWord) : tokField word < 64 := by
  rw [tokField_eq]; omega

/-- R37, R56, R57, R59, R60: the fields of a word and the operand bus carry well-formed operands only. -/
theorem decodeRequest_wellFormed (word : RequestWord) (opd : Bus) : (decodeRequest word opd).WellFormed := by
  rcases opField_cases word with h | h | h | h
  · rw [decodeRequest_of_opField_encode h]
    exact (encode_wellFormed_iff _ _ _).mpr ⟨keyEntries_length _, devField_lt word⟩
  · rw [decodeRequest_of_opField_expand h]
    exact (expand_wellFormed_iff _).mpr (unpackCodeword_length opd)
  · rw [decodeRequest_of_opField_transmit h]
    exact (transmit_wellFormed_iff _).mpr (unpackWaveform_length opd)
  · rw [decodeRequest_of_opField_issue h]
    exact (issue_wellFormed_iff _ _).mpr ⟨tokenOfCode_wellFormed (tokField_lt word), devField_lt word⟩

/-- Settles O2: the decoder's answer, row by row. -/
theorem everyRequestIsWellFormed : Obligations.EveryRequestIsWellFormed := decodeRequest_wellFormed

/-- Settles O6: six fixed words, which the decoder evaluates. -/
theorem specRequestWordsDecode : Obligations.SpecRequestWordsDecode :=
  ⟨by decide, by decide, by decide, by decide +kernel, by decide, by decide⟩

end Sys2Proof.Machine
end

section
/-! PROOFS. The acceptance of a request (spec 40 R70, 41 R80, 42 R93, 43 R105 to R108, 60 R116, R123 to R126): what exec
answers for each operation, and what it leaves as it was. -/

namespace Sys2Proof.Machine

variable {s : State}

/-! ### What exec answers -/

/-- R116: `STATUS.FATAL` comes before everything else an operation looks at. -/
theorem exec_of_fatal (hfatal : s.fatal = true) (i : Instr) :
    exec i s = .next (s.raise (.invalidConfiguration .startup)) := by
  cases i with
  | encode key device command => simp [exec, execEncode, hfatal]
  | expand cw => simp [exec, execExpand, hfatal]
  | transmit w => simp [exec, execTransmit, hfatal]
  | issue token device => simp [exec, execIssue, hfatal]

theorem exec_encode (hfatal : s.fatal = false) {key : List Bool} (hkey : key.length = 5) (device : Nat)
    (command : Command) :
    exec (.encode key device command) s =
      .next (s.answer (.ok (some (packCodeword (buildCodeword key device command))))) := by
  simp [exec, execEncode, hfatal, encodeCall_eq_ok hkey]

/-- R70: the one error of `encode`. -/
theorem encodeCall_eq_error {key : List Bool} (hkey : key.length ≠ 5) (device : Nat) (command : Command) :
    encodeCall key device command = .error (.invalidConfiguration .keyLength) := if_neg hkey

theorem exec_encode_of_keyLength (hfatal : s.fatal = false) {key : List Bool} (hkey : key.length ≠ 5) (device : Nat)
    (command : Command) :
    exec (.encode key device command) s = .next (s.raise (.invalidConfiguration .keyLength)) := by
  simp [exec, execEncode, hfatal, encodeCall_eq_error hkey]

theorem exec_expand (hfatal : s.fatal = false) {cw : Codeword} (hcw : cw.length = 16) :
    exec (.expand cw) s = .next (s.answer (.ok (some (packCodeword cw)))) := by
  simp [exec, execExpand, hfatal, expandCall_eq_ok hcw, packWaveform_expandLevels]

theorem exec_transmit (hfatal : s.fatal = false) (w : Waveform) : exec (.transmit w) s = s.startTrain w := by
  simp [exec, execTransmit, hfatal]

/-- R61: the two tokens that stand for a command. -/
theorem tokenCommand_eq_some_iff {token : Token} {command : Command} :
    tokenCommand token = some command ↔
      (token = .on ∧ command = .on) ∨ (token = .off ∧ command = .off) := by
  cases token <;> cases command <;> simp [tokenCommand]

theorem tokenCommand_of_recognised {token : Token} (h : token = .on ∨ token = .off) :
    ∃ command, tokenCommand token = some command := by
  rcases h with rfl | rfl
  · exact ⟨.on, rfl⟩
  · exact ⟨.off, rfl⟩

/-- R105, R106: with its checks passed, ISSUE starts the train of the configured key's codeword. -/
theorem exec_issue (hfatal : s.fatal = false) {token : Token} {command : Command}
    (hcommand : tokenCommand token = some command) (hkey : s.cfgKey.length = 5) (device : Nat) :
    exec (.issue token device) s = s.startTrain (expandLevels (buildCodeword s.cfgKey device command)) := by
  simp [exec, execIssue, hfatal, hcommand, issueWaveform_eq_ok hkey]

theorem exec_issue_of_keyLength (hfatal : s.fatal = false) {token : Token} {command : Command}
    (hcommand : tokenCommand token = some command) (hkey : s.cfgKey.length ≠ 5) (device : Nat) :
    exec (.issue token device) s = .next (s.raise (.invalidConfiguration .keyLength)) := by
  simp [exec, execIssue, hfatal, hcommand, issueWaveform, encodeCall_eq_error hkey]

/-- U3: the repeat count is looked at first. -/
theorem startTrain_of_repeatCountZero (h : s.cfgRc = 0) (w : Waveform) :
    s.startTrain w = .refused .repeatCountZero := if_pos h

/-- U4. -/
theorem startTrain_of_pulseWidthZero (hrc : s.cfgRc ≠ 0) (hpw : s.cfgPw = 0) (w : Waveform) :
    s.startTrain w = .refused .pulseWidthZero := by
  rw [State.startTrain, if_neg hrc, if_pos hpw]

/-! ### Completions and refusals -/

/-- Settles O13: the answer of ENCODE with the codeword it builds. -/
theorem encodeCompletes : Obligations.EncodeCompletes :=
  fun _ device command _ hfatal hkey =>
    ⟨_, encodeCall_eq_ok hkey device command, exec_encode hfatal hkey device command⟩

/-- Settles O14: the error of the call is raised. -/
theorem encodeRejectsOtherKeyLengths : Obligations.EncodeRejectsOtherKeyLengths :=
  fun _ device command _ hfatal hkey =>
    ⟨encodeCall_eq_error hkey device command, exec_encode_of_keyLength hfatal hkey device command⟩

/-- Settles O20: the packed waveform of the answer is the packed codeword. -/
theorem expandCompletes : Obligations.ExpandCompletes := by
  intro cw s hfatal hcw
  refine ⟨_, expandCall_eq_ok hcw, ?_⟩
  rw [packWaveform_expandLevels]
  exact exec_expand hfatal hcw

/-- Settles O22: inside the contract the transmit step starts the train. -/
theorem transmitStartsTheTrain : Obligations.TransmitStartsTheTrain := by
  intro w s hfatal contract
  rw [exec_transmit hfatal, startTrain_eq_next contract]
  rfl

/-- Settles O23: ISSUE comes to the transmit step with the waveform of the two calls. -/
theorem issueStartsTheTrain : Obligations.IssueStartsTheTrain := by
  intro token command device s hfatal contract hkey htoken
  refine ⟨_, _, encodeCall_eq_ok hkey device command, expandCall_eq_ok (buildCodeword_length ..), ?_⟩
  rw [exec_issue hfatal (tokenCommand_eq_some_iff.mpr htoken) hkey, startTrain_eq_next contract]
  rfl

/-- Settles O24: both come to the same transmit step, or to the same error of a fatal block. -/
theorem issueIsEncodeExpandTransmit : Obligations.IssueIsEncodeExpandTransmit := by
  intro token command device s hkey htoken
  refine ⟨_, _, encodeCall_eq_ok hkey device command, expandCall_eq_ok (buildCodeword_length ..), ?_⟩
  cases hfatal : s.fatal with
  | true => rw [exec_of_fatal hfatal, exec_of_fatal hfatal]
  | false => rw [exec_issue hfatal (tokenCommand_eq_some_iff.mpr htoken) hkey, exec_transmit hfatal]

/-- Settles O25: both operations come to the transmit step, which looks at the two timings. -/
theorem zeroTimingsAreRefused : Obligations.ZeroTimingsAreRefused := by
  intro i s hfatal h
  have atTransmitStep : ∃ w, exec i s = s.startTrain w := by
    obtain ⟨w, rfl⟩ | ⟨hkey, token, device, rfl, recognised⟩ := h
    · exact ⟨w, exec_transmit hfatal w⟩
    · obtain ⟨command, hcommand⟩ := tokenCommand_of_recognised recognised
      exact ⟨_, exec_issue hfatal hcommand hkey device⟩
  obtain ⟨w, e⟩ := atTransmitStep
  rw [e]
  exact ⟨fun hrc => startTrain_of_repeatCountZero hrc w, fun hrc hpw => startTrain_of_pulseWidthZero hrc hpw w⟩

/-- Settles O26: the token is checked before anything is touched. -/
theorem unrecognisedTokenIsRejected : Obligations.UnrecognisedTokenIsRejected :=
  fun code device _ hfatal => exec_issue_unrecognised hfatal code device

/-- Settles O27: all four operations look at `STATUS.FATAL` first. -/
theorem fatalBlockAnswersInvalidConfiguration : Obligations.FatalBlockAnswersInvalidConfiguration :=
  fun i _ hfatal => exec_of_fatal hfatal i

/-- Settles O28: one equation of exec for each check that fails, and one for the checks passed. -/
theorem issueChecksInOrder : Obligations.IssueChecksInOrder := by
  intro token device s
  refine ⟨fun hfatal => exec_of_fatal hfatal _, ?token, ?keyLength, ?passed⟩
  case token =>
    rintro hfatal ⟨code, rfl⟩
    exact exec_issue_unrecognised hfatal code device
  case keyLength =>
    intro hfatal recognised hkey
    obtain ⟨command, hcommand⟩ := tokenCommand_of_recognised recognised
    exact exec_issue_of_keyLength hfatal hcommand hkey device
  case passed =>
    intro hfatal recognised hkey
    obtain ⟨command, hcommand⟩ := tokenCommand_of_recognised recognised
    exact ⟨_, exec_issue hfatal hcommand hkey device⟩

/-! ### What acceptance leaves unchanged -/

/-- Settles O29: an answer writes no register, and a train that starts writes `STATUS.BUSY` and `TX.*` but `TX.H`. -/
theorem acceptanceFrame : Obligations.AcceptanceFrame := by
  intro i s t h
  refine ⟨exec_sameConfig h, ?_⟩
  obtain ⟨r, rfl⟩ | ⟨row, w, -, -, rfl⟩ := exec_next h
  · exact ⟨⟨rfl, rfl, rfl, rfl, rfl⟩, rfl, rfl, rfl, rfl, rfl, fun _ => ⟨rfl, rfl, rfl, rfl, rfl⟩⟩
  · refine ⟨⟨rfl, rfl, rfl, rfl, rfl⟩, rfl, rfl, rfl, rfl, rfl, fun quiet => ?_⟩
    rcases row with e | e <;> simp [e] at quiet

/-- Settles O30: of the answers exec can give, the errors are `InvalidConfiguration` and `InvalidCommand`. -/
theorem earlyErrorsAreFreeOfEffects : Obligations.EarlyErrorsAreFreeOfEffects := by
  intro i s t left e h answered
  obtain ⟨r, early, rfl⟩ | ⟨-, w, -, -, rfl⟩ := exec_kinds h
  · obtain ⟨rfl, rfl⟩ := Phase.respond.inj answered
    cases early with
    | configuration check => exact ⟨nofun, nofun, rfl⟩
    | token code device issued => exact ⟨nofun, nofun, rfl⟩
  · cases answered

end Sys2Proof.Machine
end

section
/-! PROOFS. The invariant (spec 10, 42): it holds at reset, every action of the block keeps it, and under it every step
completes. -/

namespace Sys2Proof.Machine

variable {s t : State}

/-! ### What the invariant says at each control point -/

theorem phaseInv_of_reset (hp : s.phase = .reset) : s.PhaseInv ↔ s.busy = false := by
  rw [State.PhaseInv, hp]

theorem phaseInv_of_idle (hp : s.phase = .idle) : s.PhaseInv ↔ s.busy = false := by
  rw [State.PhaseInv, hp]

theorem phaseInv_of_guard {n : Nat} (hp : s.phase = .guard n) :
    s.PhaseInv ↔ s.TrainOn ∧ s.txR = 0 ∧ s.txI = 0 ∧ s.trace = [] := by
  rw [State.PhaseInv, hp]

theorem phaseInv_of_level {n : Nat} (hp : s.phase = .level n) :
    s.PhaseInv ↔ s.TrainOn ∧ s.trace = trainTrace s.txWf s.cfgPw s.txR s.txI := by
  rw [State.PhaseInv, hp]

theorem phaseInv_of_hold (hp : s.phase = .hold) :
    s.PhaseInv ↔ s.TrainOn ∧ 0 < s.txH ∧ s.txH ≤ s.cfgPw ∧ ∃ b, s.txWf[s.txI]? = some b ∧
      s.trace = trainTrace s.txWf s.cfgPw s.txR s.txI ++ [Event.set b] := by
  rw [State.PhaseInv, hp]

theorem phaseInv_of_respond {n : Nat} {r : Response} (hp : s.phase = .respond n r) :
    s.PhaseInv ↔ (s.busy = true ∧ s.TrainOn ∧ s.TrainEnded r) ∨
      (s.busy = false ∧ s.trace = [] ∧ quietResponse r = true) := by
  rw [State.PhaseInv, hp]

/-! ### States that agree on what the invariant reads -/

theorem State.TrainOn.congr (on : s.TrainOn) (busy : t.busy = s.busy) (config : sameConfig s t)
    (tx : t.txWf = s.txWf ∧ t.txR = s.txR ∧ t.txI = s.txI) : t.TrainOn := by
  obtain ⟨-, -, -, pw, rc, fatal⟩ := config
  obtain ⟨wf, r, i⟩ := tx
  exact ⟨busy ▸ on.busy, fatal ▸ on.notFatal, pw ▸ on.pwPos, rc ▸ on.rcPos, wf ▸ on.length,
    r ▸ rc ▸ on.repetition, i ▸ on.index⟩

theorem State.TrainEnded.congr {r : Response} (ended : s.TrainEnded r) (config : sameConfig s t)
    (tx : sameTx s t) (trace : t.trace = s.trace) : t.TrainEnded r := by
  obtain ⟨-, -, -, pw, rc, -⟩ := config
  obtain ⟨wf, rep, i, -⟩ := tx
  rwa [State.TrainEnded, trace, wf, pw, rc, rep, i]

/-- A train inside its waveform has a level at its position (R22). -/
theorem State.TrainOn.level (on : s.TrainOn) : ∃ b, s.txWf[s.txI]? = some b :=
  ⟨_, List.getElem?_eq_getElem (lt_of_lt_of_eq on.index on.length.symm)⟩

theorem clearStrobes_phaseInv (h : s.PhaseInv) : s.clearStrobes.PhaseInv := by
  have on (h : s.TrainOn) : s.clearStrobes.TrainOn := h.congr rfl (clearStrobes_sameConfig s) ⟨rfl, rfl, rfl⟩
  cases hp : s.phase with
  | reset => exact (phaseInv_of_reset (by exact hp)).mpr ((phaseInv_of_reset hp).mp h)
  | idle => exact (phaseInv_of_idle (by exact hp)).mpr ((phaseInv_of_idle hp).mp h)
  | respond n r =>
    refine (phaseInv_of_respond (by exact hp)).mpr (((phaseInv_of_respond hp).mp h).imp_left ?_)
    exact fun ⟨busy, train, ended⟩ =>
      ⟨busy, on train, ended.congr (clearStrobes_sameConfig s) ⟨rfl, rfl, rfl, rfl⟩ rfl⟩
  | guard n => exact (phaseInv_of_guard (by exact hp)).mpr (((phaseInv_of_guard hp).mp h).imp_left on)
  | level n => exact (phaseInv_of_level (by exact hp)).mpr (((phaseInv_of_level hp).mp h).imp_left on)
  | hold => exact (phaseInv_of_hold (by exact hp)).mpr (((phaseInv_of_hold hp).mp h).imp_left on)

/-! ### The invariant under each operation -/

/-- R93: a train of 128 levels begins at the first of them. -/
theorem beginTrain_phaseInv {w : Waveform} (hw : w.length = 128) (hfatal : s.fatal = false) (contract : s.InContract) :
    (s.beginTrain w).PhaseInv :=
  (phaseInv_of_guard rfl).mpr
    ⟨⟨rfl, hfatal, contract.1, contract.2, hw, contract.2, Nat.zero_lt_succ _⟩, rfl, rfl, rfl⟩

/-- R45, R126: a request that ends before any access leaves an empty trace. -/
theorem answer_phaseInv {r : Response} (hb : s.busy = false) (quiet : quietResponse r = true) :
    (s.answer r).PhaseInv :=
  (phaseInv_of_respond rfl).mpr (.inr ⟨hb, rfl, quiet⟩)

theorem exec_phaseInv {i : Instr} (hi : i.WellFormed) (hk : s.cfgKey.length = 5) (hb : s.busy = false)
    (h : exec i s = .next t) : t.PhaseInv := by
  obtain ⟨r, quiet, rfl⟩ | ⟨w, hw, hfatal, contract, rfl⟩ := exec_next_wf hi hk h
  · exact answer_phaseInv hb quiet
  · exact beginTrain_phaseInv hw hfatal contract

/-- A train that has ended awaits its response. -/
theorem finish_phaseInv {r : Response} (on : s.TrainOn) (ended : s.TrainEnded r) : (s.finish r).PhaseInv :=
  (phaseInv_of_respond rfl).mpr (.inl ⟨on.busy, on.congr rfl (by simp [sameConfig]) ⟨rfl, rfl, rfl⟩,
    ended.congr (by simp [sameConfig]) ⟨rfl, rfl, rfl, rfl⟩ rfl⟩)

theorem toLevel_phaseInv (on : s.TrainOn) (trace : s.trace = trainTrace s.txWf s.cfgPw s.txR s.txI) :
    s.toLevel.PhaseInv :=
  (phaseInv_of_level rfl).mpr ⟨on.congr rfl (by simp [sameConfig]) ⟨rfl, rfl, rfl⟩, trace⟩

theorem setLevel_trainOn (on : s.TrainOn) (b : Level) : (s.setLevel b).TrainOn :=
  on.congr (by simp) (by simp [sameConfig]) (by simp)

theorem goTo_trainOn (on : s.TrainOn) (p : Phase) : (s.goTo p).TrainOn :=
  on.congr rfl (goTo_sameConfig s p) ⟨rfl, rfl, rfl⟩

/-- R95, R99: the guard fails, and the trace is its one access, or it stands before the first level. -/
theorem guardAccess_phaseInv (hp : s.phase = .guard 0) (h : s.PhaseInv) : s.guardAccess.PhaseInv := by
  obtain ⟨on, r, i, empty⟩ := (phaseInv_of_guard hp).mp h
  obtain ⟨fault, e⟩ | ⟨-, none, -⟩ | ⟨answered, -, e⟩ := guardAccess_cases s
  · rw [e]
    exact finish_phaseInv (setLevel_trainOn on false) (.inr (.inl ⟨rfl, by simp [fault, empty]⟩))
  · have length := on.length
    rw [none] at length
    cases length
  · rw [e]
    refine toLevel_phaseInv (setLevel_trainOn on false) ?_
    simp [answered, empty, r, i, trainTrace, levelsBefore]

/-- R94, R99: a level access begins its hold, or it fails and the trace is cut after it. -/
theorem levelAccess_phaseInv (hp : s.phase = .level 0) (h : s.PhaseInv) (next : s.levelAccess = .next t) :
    t.PhaseInv := by
  obtain ⟨on, trace⟩ := (phaseInv_of_level hp).mp h
  obtain ⟨b, level, ⟨answered, rfl⟩ | ⟨fault, rfl⟩⟩ := levelAccess_next next
  · refine (phaseInv_of_hold rfl).mpr ⟨?_, ?_, ?_, b, ?_, ?_⟩
    · exact (setLevel_trainOn on b).congr rfl (by simp [sameConfig]) ⟨rfl, rfl, rfl⟩
    · simpa using on.pwPos
    · simp
    · simpa using level
    · simp [answered, trace]
  · have ended : (s.setLevel b).TrainEnded (.error (.transmissionFailed (.level s.txR s.txI))) :=
      .inr (.inr ⟨by simp, b, by simpa using level, by simp [fault, trace]⟩)
    exact finish_phaseInv (setLevel_trainOn on b) ended

/-- R22, R98: with the level at the position held, the train stands before the next one, or it is over. -/
theorem advance_phaseInv (on : s.TrainOn) (trace : s.trace = trainTrace s.txWf s.cfgPw s.txR (s.txI + 1)) :
    s.advance.PhaseInv := by
  have length := on.length
  have index := on.index
  have repetition := on.repetition
  obtain ⟨more, e⟩ | ⟨last, more, e⟩ | ⟨last, final, e⟩ := advance_cases s
  · rw [e]
    exact toLevel_phaseInv { on with index := length ▸ more } trace
  all_goals
    rw [show s.txI + 1 = s.txWf.length by omega, trainTrace_repetition] at trace
    rw [e]
  · exact toLevel_phaseInv { on with index := Nat.zero_lt_succ _, repetition := more } trace
  · rw [show s.txR + 1 = s.cfgRc by omega] at trace
    exact finish_phaseInv on (.inl ⟨rfl, trace⟩)

/-- R132: a hold goes on, or it stands in the trace and the position advances. -/
theorem holdTick_phaseInv (hp : s.phase = .hold) (h : s.PhaseInv) : s.holdTick.PhaseInv := by
  obtain ⟨on, -, bound, b, level, trace⟩ := (phaseInv_of_hold hp).mp h
  rcases Nat.lt_or_ge 1 s.txH with more | last
  · rw [holdTick_more more]
    refine (phaseInv_of_hold (by exact hp)).mpr ⟨?_, ?_, ?_, b, level, trace⟩
    · exact on.congr rfl (by simp [sameConfig]) ⟨rfl, rfl, rfl⟩
    · simp; omega
    · simp; omega
  · rw [holdTick_over last]
    refine advance_phaseInv (on.congr rfl (by simp [sameConfig]) ⟨rfl, rfl, rfl⟩) ?_
    simp only [State.endHold_trace, State.endHold_txWf, State.endHold_cfgPw, State.endHold_txR, State.endHold_txI]
    rw [trace, trainTrace_snoc _ _ level]

/-- One time unit of a free duration passes. -/
theorem goTo_respond_phaseInv {n m : Nat} {r : Response} (hp : s.phase = .respond n r) (h : s.PhaseInv) :
    (s.goTo (.respond m r)).PhaseInv := by
  refine (phaseInv_of_respond rfl).mpr (((phaseInv_of_respond hp).mp h).imp_left ?_)
  exact fun ⟨busy, on, ended⟩ =>
    ⟨busy, goTo_trainOn on _, ended.congr (goTo_sameConfig s _) ⟨rfl, rfl, rfl, rfl⟩ rfl⟩

/-! ### The invariant under one step -/

/-- R11: the key of a valid record has five entries, and so has the free key of an invalid one. -/
theorem startup_cfgKey_length (s : State) (c : StartupRecord) : (s.startup c).cfgKey.length = 5 := by
  unfold State.startup
  split
  case isTrue valid => exact ((recordValid_iff c).mp valid).1
  case isFalse => rfl

/-- Reset and startup give the key five entries, and no other action writes it. -/
theorem action_cfgKey_length (action : Action s t) (hk : s.cfgKey.length = 5) : t.cfgKey.length = 5 := by
  have config := action_sameConfig action
  cases action with
  | reset => exact keyEntries_length _
  | startup => exact startup_cfgKey_length _ _
  | idle hr hp | accept hr hp | respondWait hr hp | respond hr hp | guardWait hr hp | guard hr hp
  | levelWait hr hp | level hr hp | hold hr hp =>
    obtain ⟨key, -⟩ := config hr (by rw [hp]; nofun)
    rwa [key]

theorem action_phaseInv (action : Action s t) (h : s.Inv) : t.PhaseInv := by
  obtain ⟨hk, inv⟩ := h
  have cleared := clearStrobes_phaseInv inv
  cases action with
  | reset => exact (phaseInv_of_reset rfl).mpr rfl
  | startup _ hp =>
    exact (phaseInv_of_idle (by simp)).mpr (by simpa using (phaseInv_of_reset hp).mp inv)
  | idle => exact cleared
  | accept _ _ hb _ he => exact exec_phaseInv (s := s.clearStrobes) (decodeRequest_wellFormed _ _) hk hb he
  | respondWait _ hp => exact goTo_respond_phaseInv hp cleared
  | respond => exact (phaseInv_of_idle rfl).mpr rfl
  | guardWait _ hp =>
    exact (phaseInv_of_guard rfl).mpr
      (((phaseInv_of_guard (s := s.clearStrobes) hp).mp cleared).imp_left (goTo_trainOn · _))
  | guard _ hp => exact guardAccess_phaseInv hp cleared
  | levelWait _ hp =>
    exact (phaseInv_of_level rfl).mpr
      (((phaseInv_of_level (s := s.clearStrobes) hp).mp cleared).imp_left (goTo_trainOn · _))
  | level _ hp he => exact levelAccess_phaseInv (s := s.clearStrobes) hp cleared he
  | hold _ hp => exact holdTick_phaseInv hp cleared

/-- Settles O53: at reset the flag `STATUS.BUSY` is 0 and the free key has five entries. -/
theorem resetMeetsTheInvariant : Obligations.ResetMeetsTheInvariant :=
  ⟨keyEntries_length _, (phaseInv_of_reset rfl).mpr rfl⟩

/-- Settles O54: the block's action keeps the invariant, and the surroundings' move touches nothing it speaks of. -/
theorem stepKeepsTheInvariant : Obligations.StepKeepsTheInvariant := by
  intro s t inv h
  obtain ⟨u, action, rfl⟩ := step_action h
  exact State.Inv.takePins ⟨action_cfgKey_length action inv.1, action_phaseInv action inv⟩

/-! ### Every step completes -/

/-- An operation that a request can carry is refused only outside the contract. -/
theorem exec_completes {i : Instr} (hi : i.WellFormed) (hk : s.cfgKey.length = 5) (contract : s.InContract) :
    ∃ t, exec i s = .next t := by
  cases hfatal : s.fatal with
  | true => exact ⟨_, exec_of_fatal hfatal i⟩
  | false =>
    cases i with
    | encode key device command =>
      exact ⟨_, exec_encode hfatal ((encode_wellFormed_iff key device command).mp hi).1 device command⟩
    | expand cw => exact ⟨_, exec_expand hfatal ((expand_wellFormed_iff cw).mp hi)⟩
    | transmit w => exact ⟨_, (exec_transmit hfatal w).trans (startTrain_eq_next contract w)⟩
    | issue token device =>
      cases hcommand : tokenCommand token with
      | none =>
        cases token with
        | unrecognised code => exact ⟨_, exec_issue_unrecognised hfatal code device⟩
        | _ => cases hcommand
      | some command => exact ⟨_, (exec_issue hfatal hcommand hk device).trans (startTrain_eq_next contract _)⟩

theorem idleAct_completes (hk : s.cfgKey.length = 5) (contract : s.InContract) : ∃ t, s.idleAct = .next t := by
  unfold State.idleAct
  split
  · exact exec_completes (decodeRequest_wellFormed _ _) hk contract
  · exact ⟨s, rfl⟩

/-- Inside the waveform a level access answers a next state, failing or not. -/
theorem levelAccess_completes (on : s.TrainOn) : ∃ t, s.levelAccess = .next t := by
  obtain ⟨b, level⟩ := on.level
  cases answer : s.pins.lineFault with
  | false => exact ⟨_, levelAccess_ok level answer⟩
  | true => exact ⟨_, levelAccess_fails level answer⟩

theorem phaseAct_completes (inv : s.Inv) (contract : s.phase = .idle → s.InContract) :
    ∃ t, s.phaseAct = .next t := by
  obtain ⟨hk, phaseInv⟩ := inv
  unfold State.phaseAct
  split
  case h_2 hp => exact idleAct_completes hk (contract hp)
  case h_8 hp => exact levelAccess_completes ((phaseInv_of_level hp).mp phaseInv).1
  all_goals exact ⟨_, rfl⟩

/-- Settles O55: acceptance and the level access are the only actions that can stop the machine. -/
theorem invariantStatesStep : Obligations.InvariantStatesStep := by
  intro s inv contract
  obtain ⟨t, acted⟩ : ∃ t, s.act = .next t := by
    cases hr : s.pins.rst with
    | true => exact ⟨_, act_of_rst hr⟩
    | false =>
      rw [act_of_not_rst hr]
      exact phaseAct_completes ⟨inv.1, clearStrobes_phaseInv inv.2⟩ contract
  exact ⟨t.takePins, step_eq_next.mpr ⟨t, acted, rfl⟩⟩

end Sys2Proof.Machine
end

section
/-! PROOFS. The shape of a codeword and of its waveform (spec 40 R74, R76, 41 R85): what ENCODE builds, symbol by
symbol, and what that makes of the levels. -/

namespace Sys2Proof.Machine

/-! ### The parts of a codeword -/

/-- The symbol that stands for one bit of the key or of the device (R71, R72). -/
def bitSymbol (b : Bool) : Symbol := if b then Config.long else Config.short

/-- The entries 10 and 11 (R73). -/
def commandPair (command : Command) : Codeword :=
  if command = .on then [Config.long, Config.short] else [Config.short, Config.long]

theorem bitSymbol_injective : Function.Injective bitSymbol := by
  unfold Function.Injective
  decide

theorem bitSymbol_eq_short_or_long (b : Bool) : bitSymbol b = Config.short ∨ bitSymbol b = Config.long := by
  cases b
  · exact .inl rfl
  · exact .inr rfl

theorem commandPair_injective : Function.Injective commandPair := by
  intro c c' h
  match c, c' with
  | .on, .on | .off, .off => rfl
  | .on, .off | .off, .on => exact absurd h (by decide)

@[simp] theorem commandPair_length (command : Command) : (commandPair command).length = 2 := by
  cases command <;> rfl

section
variable {key : List Bool} (hkey : key.length = 5) (device : Nat) (command : Command)
include hkey

/-- R52: the symbols of the key and of the device, the command pair, the trailer. -/
theorem buildCodeword_eq_parts :
    buildCodeword key device command =
      (key ++ deviceBits device).map bitSymbol ++ commandPair command ++ Config.trailer :=
  buildCodeword_eq_append hkey device command

/-- R74: the trailer. -/
theorem drop_buildCodeword : (buildCodeword key device command).drop 12 = Config.trailer := by
  rw [buildCodeword_eq_parts hkey, List.drop_left' (by simp [hkey])]

/-- R73: the command pair is one SHORT and one LONG. -/
theorem buildCodeword_pair :
    ((buildCodeword key device command)[10]? = some Config.short ∧
      (buildCodeword key device command)[11]? = some Config.long) ∨
    ((buildCodeword key device command)[10]? = some Config.long ∧
      (buildCodeword key device command)[11]? = some Config.short) := by
  cases command with
  | off => exact .inl (buildCodeword_off_pair hkey device)
  | on => exact .inr (buildCodeword_on_pair key device)

/-- The first twelve entries are SHORT or LONG. -/
theorem buildCodeword_entry_of_lt {j : Nat} {x : Symbol} (hj : j < 12)
    (h : (buildCodeword key device command)[j]? = some x) : x = Config.short ∨ x = Config.long := by
  rw [buildCodeword_eq_parts hkey, List.getElem?_append_left (by simp [hkey]; omega)] at h
  rcases List.mem_append.mp (List.mem_of_getElem? h) with bit | pair
  · obtain ⟨b, -, rfl⟩ := List.mem_map.mp bit
    exact bitSymbol_eq_short_or_long b
  · cases command <;> simp [commandPair] at pair <;> tauto

/-- The entries from 12 on are the trailer's. -/
theorem buildCodeword_entry_of_ge {j : Nat} (hj : 12 ≤ j) :
    (buildCodeword key device command)[j]? = Config.trailer[j - 12]? := by
  rw [← drop_buildCodeword hkey device command, List.getElem?_drop, Nat.add_sub_cancel' hj]

/-- R76: every entry is one of the values allowed in its place. -/
theorem buildCodeword_entry_cases {j : Nat} {x : Symbol} (h : (buildCodeword key device command)[j]? = some x) :
    (j ≤ 11 ∧ (x = Config.short ∨ x = Config.long)) ∨ (j = 12 ∧ x = 0x80#8) ∨ (13 ≤ j ∧ x = 0x00#8) := by
  have bound : j < 16 := by simpa using (List.getElem?_eq_some_iff.mp h).1
  rcases Nat.lt_or_ge j 12 with hj | hj
  · exact .inl ⟨by omega, buildCodeword_entry_of_lt hkey device command hj h⟩
  · rw [buildCodeword_entry_of_ge hkey device command hj] at h
    interval_cases j <;> simp_all [Config.trailer]

end

/-! ### The number of bits set -/

/-- A symbol of four bits for each false entry, of two for each true one. -/
theorem count_expandLevels_bitSymbol (bits : List Bool) :
    (expandLevels (bits.map bitSymbol)).count true + 2 * bits.count true = 4 * bits.length := by
  induction bits with
  | nil => rfl
  | cons b bits ih =>
    have symbol : (symbolLevels (bitSymbol b)).count true + 2 * [b].count true = 4 := by revert b; decide
    rw [List.map_cons, expandLevels, List.flatMap_cons, List.count_append, ← expandLevels, ← List.singleton_append,
      List.count_append, List.length_append, List.length_singleton]
    omega

theorem count_expandLevels_commandPair (command : Command) : (expandLevels (commandPair command)).count true = 6 := by
  cases command <;> decide

theorem expandLevels_append (cw cw' : Codeword) :
    expandLevels (cw ++ cw') = expandLevels cw ++ expandLevels cw' := List.flatMap_append

/-- R76, R85: ten symbols of the key and the device, the command pair, and the one bit of the trailer. -/
theorem count_expandLevels_buildCodeword {key : List Bool} (hkey : key.length = 5) (device : Nat)
    (command : Command) :
    (expandLevels (buildCodeword key device command)).count true +
      2 * (key.count true + (deviceBits device).count true) = 47 := by
  have bits := count_expandLevels_bitSymbol (key ++ deviceBits device)
  have trailer : (expandLevels Config.trailer).count true = 1 := by decide
  rw [buildCodeword_eq_parts hkey, expandLevels_append, expandLevels_append, List.count_append, List.count_append,
    count_expandLevels_commandPair, trailer]
  rw [List.count_append, List.length_append, hkey, deviceBits_length] at bits
  omega

/-! ### The laws of the codeword -/

/-- Settles O10: the last part of the codeword is the trailer, and the five tested bits are those of the device
mod 32. -/
theorem trailerIsFixedAndDeviceIsMod32 : Obligations.TrailerIsFixedAndDeviceIsMod32 := by
  constructor
  · intro key device command hkey
    exact ⟨_, encodeCall_eq_ok hkey device command, drop_buildCodeword hkey device command⟩
  · intro key device command
    simp only [encodeCall, buildCodeword, deviceBits_mod]

/-- Settles O11: entry by entry, and the bits counted part by part. -/
theorem codewordShape : Obligations.CodewordShape := by
  intro key device command hkey
  refine ⟨_, encodeCall_eq_ok hkey device command, buildCodeword_length .., ?entries, ?pair, ?leading, ?count⟩
  case entries => exact fun j x h => buildCodeword_entry_cases hkey device command h
  case pair => exact buildCodeword_pair hkey device command
  case leading =>
    refine ⟨_, buildCodeword_getElem?_key hkey device command (by decide), ?_⟩
    split <;> rfl
  case count => exact count_expandLevels_buildCodeword hkey device command

/-- Settles O12: the parts of equal codewords are equal, and each part determines its operand. -/
theorem encodeIsInjective : Obligations.EncodeIsInjective := by
  intro key key' device device' command command' hkey hkey' h
  rw [encodeCall_eq_ok hkey, encodeCall_eq_ok hkey', Except.ok.injEq, buildCodeword_eq_parts hkey,
    buildCodeword_eq_parts hkey'] at h
  obtain ⟨parts, -⟩ := List.append_inj' h rfl
  obtain ⟨symbols, pair⟩ := List.append_inj' parts (by simp)
  obtain ⟨keys, devices⟩ := List.append_inj (List.map_injective_iff.mpr bitSymbol_injective symbols)
    (hkey.trans hkey'.symm)
  exact ⟨keys, mod_eq_of_deviceBits_eq devices, commandPair_injective pair⟩

/-! ### The waveform of a built codeword -/

/-- R33: the levels of symbol s stand together, at 8s. -/
theorem take_drop_expandLevels {cw : Codeword} : ∀ {s : Nat} {x : Symbol}, cw[s]? = some x →
    ((expandLevels cw).drop (8 * s)).take 8 = symbolLevels x := by
  induction cw with
  | nil => intro s x h; simp at h
  | cons y cw ih =>
    intro s x h
    have first : expandLevels (y :: cw) = symbolLevels y ++ expandLevels cw := rfl
    cases s with
    | zero =>
      obtain rfl : y = x := by simpa using h
      rw [first, Nat.mul_zero, List.drop_zero, List.take_left' (symbolLevels_length y)]
    | succ s =>
      rw [first, show 8 * (s + 1) = (symbolLevels y).length + 8 * s by simp; omega, List.drop_length_add_append]
      exact ih (by simpa using h)

/-- R85: SHORT and LONG differ in their two levels before the last. -/
theorem symbolLevels_of_short_or_long {x : Symbol} (h : x = Config.short ∨ x = Config.long) :
    ∃ b, symbolLevels x = [true, false, false, false, true, b, b, false] := by
  rcases h with rfl | rfl
  · exact ⟨true, rfl⟩
  · exact ⟨false, rfl⟩

section
variable {key : List Bool} (hkey : key.length = 5) (device : Nat) (command : Command)
include hkey

theorem expandLevels_buildCodeword_group {s : Nat} (hs : s < 12) :
    ∃ x, ((expandLevels (buildCodeword key device command)).drop (8 * s)).take 8 =
      [true, false, false, false, true, x, x, false] := by
  have inside : s < (buildCodeword key device command).length := by simp; omega
  have entry := List.getElem?_eq_getElem inside
  rw [take_drop_expandLevels entry]
  exact symbolLevels_of_short_or_long (buildCodeword_entry_of_lt hkey device command hs entry)

theorem expandLevels_buildCodeword_first :
    (expandLevels (buildCodeword key device command))[0]? = some true := by
  obtain ⟨x, group⟩ := expandLevels_buildCodeword_group hkey device command (s := 0) (by decide)
  have first := congrArg (·[0]?) group
  simpa using first

/-- R85: the levels from 96 on are the trailer's. -/
theorem expandLevels_buildCodeword_trailer {n : Nat} (low : 96 ≤ n) :
    (expandLevels (buildCodeword key device command))[n]? = (expandLevels Config.trailer)[n - 96]? := by
  rw [buildCodeword_eq_parts hkey, expandLevels_append, List.getElem?_append_right (by simp [hkey]; omega)]
  simp [hkey]

theorem expandLevels_buildCodeword_low {n : Nat} (low : 97 ≤ n) (high : n < 128) :
    (expandLevels (buildCodeword key device command))[n]? = some false := by
  rw [expandLevels_buildCodeword_trailer hkey device command (by omega)]
  interval_cases n <;> rfl

end

/-- Settles O19: the groups of the first twelve symbols, the levels of the trailer, and the levels counted. -/
theorem builtWaveformShape : Obligations.BuiltWaveformShape := by
  intro key device command hkey
  refine ⟨_, issueWaveform_eq_ok hkey device command, by simp, ?first, ?trailer, ?low, ?groups, ?count⟩
  case first => exact expandLevels_buildCodeword_first hkey device command
  case trailer => exact expandLevels_buildCodeword_trailer hkey device command (by decide)
  case low => exact fun n low high => expandLevels_buildCodeword_low hkey device command low high
  case groups => exact fun s hs => expandLevels_buildCodeword_group hkey device command hs
  case count => exact count_expandLevels_buildCodeword hkey device command

end Sys2Proof.Machine
end

section
/-! PROOFS. One step (spec 20, 30 R55, 42, 60 R131, 70): what each control point makes of the state, and what every step
leaves alone. -/

namespace Sys2Proof.Machine

variable {s t : State}

/-! ### Waiting and acceptance -/

/-- Settles O32: at a ready block the action is exec of the decoded request. -/
theorem stepRunsTheDecodedRequest : Obligations.StepRunsTheDecodedRequest := by
  intro s hr hp hb hv
  have accepts : s.clearStrobes.idleAct =
      exec (decodeRequest s.pins.reqWord s.pins.reqOpd) s.clearStrobes := by
    simp [State.idleAct, State.reqReady, hr, hp, hb, hv]
  rw [step_idle hr hp, accepts]
  rfl

/-- R137: a request that is not presented is not accepted. -/
theorem idleAct_of_no_request (hv : s.pins.reqValid = false) : s.idleAct = .next s := by
  simp [State.idleAct, hv]

/-- Settles O33: the action only lowers the strobes, and the surroundings move. -/
theorem idleBlockWaits : Obligations.IdleBlockWaits := by
  intro s hr hp hv
  rw [step_idle hr hp, idleAct_of_no_request (by exact hv)]
  rfl

/-! ### The transmitter -/

/-- Settles O34: of what the guard can do, a successful access before a level is one `SetLevel(false)`. -/
theorem guardDrivesTheLineLow : Obligations.GuardDrivesTheLineLow := by
  intro s hr answered hp levels
  refine ⟨_, step_guard_zero hr hp, ?_⟩
  obtain ⟨fault, -⟩ | ⟨-, none, -⟩ | ⟨-, -, e⟩ := guardAccess_cases s.clearStrobes
  · simp [answered] at fault
  · exact absurd none levels
  · rw [e]
    simp [answered, sameConfig, sameTx]

/-- Settles O35: a successful access sets the level and begins the hold. -/
theorem levelAccessBeginsTheHold : Obligations.LevelAccessBeginsTheHold := by
  intro s b hr answered hp level
  have access : s.clearStrobes.levelAccess = .next (s.clearStrobes.setLevel b).beginHold :=
    levelAccess_ok level answered
  refine ⟨(s.clearStrobes.setLevel b).beginHold.takePins, ?_, ?_⟩
  · rw [step_level_zero hr hp, access]
    rfl
  · simp [answered, sameConfig]

/-- Settles O38: the last time unit of a hold ends it, and the position advances in one of three ways. -/
theorem positionAdvances : Obligations.PositionAdvances := by
  intro s hr hp last
  refine ⟨_, step_hold hr hp, ?_⟩
  rw [holdTick_over (s := s.clearStrobes) last.le]
  obtain ⟨more, e⟩ | ⟨atEnd, more, e⟩ | ⟨atEnd, final, e⟩ := advance_cases s.clearStrobes.endHold
  all_goals
    rw [e]
    refine ⟨by simp, by simp, by simp, by simp, by simp, by simp, by simp [sameConfig], ?_⟩
    simp only [State.endHold_txI, State.endHold_txR, State.endHold_txWf, State.endHold_cfgRc,
      State.clearStrobes_txI, State.clearStrobes_txR, State.clearStrobes_txWf, State.clearStrobes_cfgRc] at *
  · exact ⟨fun _ => by simp, fun h => absurd h (by omega), fun h => absurd h (by omega)⟩
  · exact ⟨fun h => absurd h (by omega), fun _ _ => by simp, fun _ h => absurd h (by omega)⟩
  · exact ⟨fun h => absurd h (by omega), fun _ h => absurd h (by omega), fun _ _ => by simp⟩

/-! ### The response -/

/-- Settles O39: the ports as the response gives them, whatever its kind. -/
theorem responseIsGiven : Obligations.ResponseIsGiven := by
  intro s r hr hp
  refine ⟨_, step_respond_zero hr hp, rfl, rfl, rfl, rfl, rfl, rfl, giveResponse_sameConfig _ r,
    ⟨rfl, rfl, rfl, rfl⟩, ?_⟩
  refine ⟨?success, ?result, ?configuration, ?codeword, ?failed, ?command⟩
  case success => rintro rfl; rfl
  case result => rintro d rfl; exact ⟨rfl, rfl⟩
  case configuration => rintro check rfl; rfl
  case codeword => rintro n rfl; rfl
  case failed => rintro point rfl; rfl
  case command => rintro token rfl; rfl

theorem errorCode_le (e : Error) : (errorCode e).toNat ≤ 4 := by
  cases e <;> simp [errorCode]

theorem responseCode_le (r : Response) : (responseCode r).toNat ≤ 4 := by
  cases r with
  | ok data => simp [responseCode]
  | error e => exact errorCode_le e

/-! ### What no action but the response and the accesses does to the output ports -/

/-- An answer and the start of a train leave the line and the output ports alone. -/
theorem exec_line_sameOutputs {i : Instr} (h : exec i s = .next t) : t.line = s.line ∧ sameOutputs s t := by
  obtain ⟨r, rfl⟩ | ⟨-, w, -, -, rfl⟩ := exec_next h
  all_goals simp [sameOutputs]

theorem startup_line_sameOutputs (s : State) (c : StartupRecord) :
    (s.startup c).line = s.line ∧ sameOutputs s (s.startup c) := by simp [sameOutputs]

theorem advance_line_sameOutputs (s : State) : s.advance.line = s.line ∧ sameOutputs s s.advance := by
  obtain ⟨-, e⟩ | ⟨-, -, e⟩ | ⟨-, -, e⟩ := advance_cases s
  all_goals simp [e, sameOutputs]

theorem holdTick_line_sameOutputs (s : State) : s.holdTick.line = s.line ∧ sameOutputs s s.holdTick := by
  rcases Nat.lt_or_ge 1 s.txH with more | last
  · simp [holdTick_more more, sameOutputs]
  · rw [holdTick_over last]
    exact advance_line_sameOutputs s.endHold

/-- An access gives no response. -/
theorem guardAccess_strobes (s : State) : s.guardAccess.rspValid = s.rspValid ∧ s.guardAccess.lineSet = true := by
  obtain ⟨-, e⟩ | ⟨-, -, e⟩ | ⟨-, -, e⟩ := guardAccess_cases s
  all_goals simp [e]

theorem levelAccess_strobes (h : s.levelAccess = .next t) : t.rspValid = s.rspValid ∧ t.lineSet = true := by
  obtain ⟨b, -, ⟨-, rfl⟩ | ⟨-, rfl⟩⟩ := levelAccess_next h
  all_goals simp

/-- Every action is a response, an access, or one that leaves the line and the output ports as the fallen strobes
left them. -/
theorem action_outputs (action : Action s t) :
    (∃ r, t = s.clearStrobes.giveResponse r) ∨
      (s.pins.rst = false ∧ (s.phase = .guard 0 ∨ s.phase = .level 0) ∧ t.rspValid = false ∧ t.lineSet = true) ∨
      (t.line = s.line ∧ sameOutputs s.clearStrobes t) := by
  cases action with
  | respond => exact .inl ⟨_, rfl⟩
  | guard hr hp => exact .inr (.inl ⟨hr, .inl hp, guardAccess_strobes _⟩)
  | level hr hp he => exact .inr (.inl ⟨hr, .inr hp, levelAccess_strobes he⟩)
  | startup => exact .inr (.inr (startup_line_sameOutputs _ _))
  | accept _ _ _ _ he => exact .inr (.inr (exec_line_sameOutputs he))
  | hold => exact .inr (.inr (holdTick_line_sameOutputs _))
  | reset | idle | respondWait | guardWait | levelWait => exact .inr (.inr ⟨rfl, rfl, rfl, rfl, rfl, rfl⟩)

/-- Settles O41: the response alone raises `rsp_valid`, and it sets the code. -/
theorem errorCodesStayInRange : Obligations.ErrorCodesStayInRange := by
  intro s t h valid
  obtain ⟨u, action, rfl⟩ := step_action h
  obtain ⟨r, rfl⟩ | ⟨-, -, invalid, -⟩ | ⟨-, invalid, -⟩ := action_outputs action
  · exact responseCode_le r
  · simp [invalid] at valid
  · simp [invalid] at valid

/-- Settles O42: the accesses alone raise `line_set`; the response and all else leave the line alone. -/
theorem onlyAnAccessMovesTheLine : Obligations.OnlyAnAccessMovesTheLine := by
  intro s t h
  obtain ⟨u, action, rfl⟩ := step_action h
  obtain ⟨r, rfl⟩ | ⟨hr, access, -, pulse⟩ | ⟨line, -, -, -, lineOut, lineSet⟩ := action_outputs action
  · exact ⟨nofun, fun _ => ⟨rfl, rfl⟩⟩
  · exact ⟨fun _ => ⟨hr, access⟩, fun none => by simp [pulse] at none⟩
  · exact ⟨fun pulse => by simp [lineSet] at pulse, fun _ => ⟨line, lineOut⟩⟩

/-! ### The request pins of a block that is not ready -/

/-- The pins as they are, but for another request (R55). -/
def State.pinsWithRequest (s : State) (valid : Bool) (word : RequestWord) (opd : Bus) : Pins :=
  { s.pins with reqValid := valid, reqWord := word, reqOpd := opd }

theorem idleAct_of_not_ready (h : s.reqReady = false) : s.idleAct = .next s := by
  simp [State.idleAct, h]

section
variable (valid : Bool) (word : RequestWord) (opd : Bus)

/-- R47: of the control points, waiting alone reads the request, and only while `req_ready` = 1. -/
theorem withRequest_phaseAct (h : s.reqReady = false) :
    (s.withPins (s.pinsWithRequest valid word opd)).phaseAct =
      outcomeWithPins (s.pinsWithRequest valid word opd) s.phaseAct := by
  unfold State.phaseAct
  rw [State.withPins_phase]
  split
  case h_1 => exact congrArg Host.Outcome.next (withPins_startup s _ s.pins.cfg0)
  case h_2 => rw [idleAct_of_not_ready h, idleAct_of_not_ready (by exact h)]; rfl
  case h_6 => exact congrArg Host.Outcome.next (withPins_guardAccess rfl)
  case h_8 => exact withPins_levelAccess rfl
  case h_9 => exact congrArg Host.Outcome.next (withPins_holdTick s _)
  all_goals rfl

theorem withRequest_act (h : s.reqReady = false) :
    (s.withPins (s.pinsWithRequest valid word opd)).act =
      outcomeWithPins (s.pinsWithRequest valid word opd) s.act := by
  cases hr : s.pins.rst with
  | true => rw [act_of_rst hr, act_of_rst (by exact hr)]; rfl
  | false =>
    rw [act_of_not_rst hr, act_of_not_rst (by exact hr)]
    exact withRequest_phaseAct (s := s.clearStrobes) valid word opd h

end

/-- Settles O44: the action carries the other request along unread, and the surroundings' move replaces the pins
alike. -/
theorem unreadyBlockIgnoresRequestPins : Obligations.UnreadyBlockIgnoresRequestPins := by
  intro s valid word opd h
  change agreeUpToPins (afterAct s.act) (afterAct (s.withPins (s.pinsWithRequest valid word opd)).act)
  rw [withRequest_act valid word opd h]
  exact agreeUpToPins_afterAct (s.pinsWithRequest valid word opd) s.act

/-! ### Reset and startup -/

/-- Settles O46: a valid record is loaded as it stands. -/
theorem startupLoadsAValidRecord : Obligations.StartupLoadsAValidRecord := by
  intro s p d hr hp hkey hpin hdefdev
  have valid : recordValid s.pins.cfg0 = true := (recordValid_iff _).mpr ⟨hkey, by simp [hpin], by simp [hdefdev]⟩
  rw [step_startup hr hp, State.startup, if_pos valid, hpin, hdefdev]
  rfl

/-- Settles O47: `STATUS.FATAL` is the check of the record, and the timings do not depend on it. -/
theorem startupValidatesTheRecord : Obligations.StartupValidatesTheRecord := by
  intro s hr hp
  refine ⟨_, step_startup hr hp, by simp, by simp, by simp, by simp, by simp [Config.pwDefault],
    by simp [Config.rcDefault], ?_⟩
  have check := recordValid_iff s.pins.cfg0
  rw [State.takePins_fatal, State.startup_fatal, Bool.not_eq_true', ← Bool.not_eq_true, check]
  simp only [Option.isSome_iff_ne_none]
  tauto

/-- Settles O48: whatever the control point, the action is that of reset. -/
theorem resetWinsOverEverything : Obligations.ResetWinsOverEverything := by
  intro s hr
  exact ⟨_, step_eq_next.mpr ⟨_, act_of_rst hr, rfl⟩, rfl, rfl, rfl, rfl, rfl, rfl, rfl⟩

/-- Settles O49: the fields of the reset state, and its control point. -/
theorem resetLeaves : Obligations.ResetLeaves :=
  ⟨rfl, rfl, reqReady_eq_false_of_phase nofun, rfl, rfl, by simp [State.condition, State.reset]⟩

end Sys2Proof.Machine
end

section
/-! PROOFS. The document's `transmit` loop (spec 42 R94, R98 to R101, 70 R157): its trace and its counts, and the train
of the block as one of its calls. -/

namespace Sys2Proof.Machine

variable {w : Waveform} {pw rc : Nat} {fails : Nat → Bool}

/-! ### The three ends of a call -/

/-- R94, R98: no access fails. -/
theorem transmitCall_of_no_failure (hpw : 0 < pw) (hrc : 0 < rc) (ok : ∀ k, k ≤ rc * w.length → fails k = false) :
    transmitCall w pw rc fails = some (trainTrace w pw rc 0, .ok none) := by
  have length : (List.replicate rc w).flatten.length = rc * w.length := by simp
  have emitted := emitLevels_ok pw fails (List.replicate rc w).flatten 1 (fun k _ high => ok k (by omega))
  rw [transmitCall, if_neg (by omega), ok 0 (Nat.zero_le _), emitted]
  simp [trainTrace, levelsBefore]

/-- R95, R99: the idle guard fails. -/
theorem transmitCall_of_guard_failure (hpw : 0 < pw) (hrc : 0 < rc) (failed : fails 0 = true) :
    transmitCall w pw rc fails = some ([.setFail false], .error (.transmissionFailed .guard)) := by
  rw [transmitCall, if_neg (by omega), if_pos failed]

/-- R94, R99: the first access to fail is the one for level i of repetition r. -/
theorem transmitCall_of_level_failure {r i : Nat} {b : Level} (hpw : 0 < pw) (hr : r < rc) (level : w[i]? = some b)
    (ok : ∀ k, k ≤ r * w.length + i → fails k = false) (failed : fails (1 + r * w.length + i) = true) :
    transmitCall w pw rc fails =
      some (trainTrace w pw r i ++ [Event.setFail b], .error (.transmissionFailed (.level r i))) := by
  have hi : i < w.length := (List.getElem?_eq_some_iff.mp level).1
  have before : (levelsBefore w r i).length = r * w.length + i := levelsBefore_length r hi.le
  obtain ⟨rest, levels⟩ := train_split hr level
  have emitted := emitLevels_fails pw fails b rest (levelsBefore w r i) 1 (fun k _ high => ok k (by omega))
    (by rw [before, ← Nat.add_assoc]; exact failed)
  have position : (r * w.length + i) / w.length = r ∧ (r * w.length + i) % w.length = i := by
    rw [Nat.mul_comm, Nat.mul_add_div (by omega), Nat.mul_add_mod, Nat.div_eq_of_lt hi, Nat.mod_eq_of_lt hi]
    exact ⟨rfl, rfl⟩
  rw [transmitCall, if_neg (by omega), ok 0 (Nat.zero_le _), levels, emitted, before]
  simp [position, trainTrace]

/-! ### Counts -/

theorem accessCount_append (t t' : List Event) : accessCount (t ++ t') = accessCount t + accessCount t' :=
  List.countP_append

theorem holdCount_append (t t' : List Event) : holdCount (t ++ t') = holdCount t + holdCount t' :=
  List.countP_append

/-- An access counts as one access, and as no hold and no time. -/
theorem set_cons_counts (b : Level) (t : List Event) :
    accessCount (.set b :: t) = 1 + accessCount t ∧ holdCount (.set b :: t) = holdCount t ∧
      holdTime (.set b :: t) = holdTime t := by
  simp [accessCount, holdCount, holdTime, List.countP_cons, Event.isAccess, Event.time, Nat.add_comm]

/-- R100, R101: the guard is one access, and each level one access and one hold. -/
theorem trainTrace_counts (w : Waveform) (pw r : Nat) {i : Nat} (hi : i ≤ w.length) :
    accessCount (trainTrace w pw r i) = 1 + (r * w.length + i) ∧
      holdCount (trainTrace w pw r i) = r * w.length + i ∧
      holdTime (trainTrace w pw r i) = (r * w.length + i) * pw := by
  have levels := levelHolds_counts pw (levelsBefore w r i)
  rw [levelsBefore_length r hi] at levels
  obtain ⟨accesses, holds, time⟩ := levels
  obtain ⟨accesses', holds', time'⟩ := set_cons_counts false ((levelsBefore w r i).flatMap (levelHold pw))
  exact ⟨accesses'.trans (congrArg _ accesses), holds'.trans holds, time'.trans time⟩

/-- Settles O50: the call without a failure, and the counts of its trace. -/
theorem successfulTransmitCounts : Obligations.SuccessfulTransmitCounts := by
  intro w pw rc fails hpw hrc ok
  exact ⟨_, transmitCall_of_no_failure hpw hrc ok, rfl, rfl, trainTrace_counts w pw rc (Nat.zero_le _)⟩

/-- Settles O51: the two calls with a failure, and the counts of the trace up to it with the failing access. -/
theorem abortedTransmitCounts : Obligations.AbortedTransmitCounts := by
  intro w pw rc fails hpw hrc
  refine ⟨transmitCall_of_guard_failure hpw hrc, fun r i hr hi ok failed => ?level⟩
  case level =>
    have level := List.getElem?_eq_getElem hi
    obtain ⟨accesses, holds, -⟩ := trainTrace_counts w pw r hi.le
    refine ⟨_, level, transmitCall_of_level_failure hpw hr level ok failed, ?_, ?_⟩
    · rw [accessCount_append, accesses, show accessCount [.setFail w[i]] = 1 from rfl]
      omega
    · rw [holdCount_append, holds, show holdCount [.setFail w[i]] = 0 from rfl]
      omega

/-! ### The shape of a train -/

/-- R157: what a trace counts does not depend on its levels. -/
theorem counts_map_shape (t : List Event) :
    accessCount (t.map Event.shape) = accessCount t ∧ holdTime (t.map Event.shape) = holdTime t := by
  have access : Event.isAccess ∘ Event.shape = Event.isAccess := by funext e; cases e <;> rfl
  have time : Event.time ∘ Event.shape = Event.time := by funext e; cases e <;> rfl
  simp [accessCount, holdTime, List.countP_map, access, time]

theorem counts_eq_of_shape_eq {t t' : List Event} (h : t.map Event.shape = t'.map Event.shape) :
    accessCount t = accessCount t' ∧ holdTime t = holdTime t' := by
  obtain ⟨accesses, time⟩ := counts_map_shape t
  obtain ⟨accesses', time'⟩ := counts_map_shape t'
  exact ⟨by rw [← accesses, h, accesses'], by rw [← time, h, time']⟩

/-- The level-holds of any levels have the shape of as many LOW ones. -/
theorem levelHolds_shape (pw : Nat) (l : List Level) :
    (l.flatMap (levelHold pw)).map Event.shape = (List.replicate l.length false).flatMap (levelHold pw) := by
  induction l with
  | nil => rfl
  | cons b l ih =>
    rw [List.flatMap_cons, List.map_append, ih, List.length_cons, List.replicate_succ, List.flatMap_cons]
    rfl

theorem trainTrace_shape_eq {w w' : Waveform} (h : w.length = w'.length) (pw rc : Nat) :
    (trainTrace w pw rc 0).map Event.shape = (trainTrace w' pw rc 0).map Event.shape := by
  simp only [trainTrace, List.map_cons, levelHolds_shape, levelsBefore_length rc (Nat.zero_le _), h]

/-! ### The train of the block -/

/-- Under the invariant a busy block with its response on its way has ended its train. -/
theorem trainEnded_of_inv {s : State} {left : Nat} {r : Response} (inv : s.Inv) (hp : s.phase = .respond left r)
    (hb : s.busy = true) : s.TrainOn ∧ s.TrainEnded r := by
  obtain ⟨-, train⟩ | ⟨notBusy, -⟩ := (phaseInv_of_respond hp).mp inv.2
  · exact train
  · rw [hb] at notBusy
    cases notBusy

/-- R98: a train that ended with success has left the whole trace. -/
theorem State.TrainEnded.trace_of_ok {s : State} (ended : s.TrainEnded (.ok none)) :
    s.trace = trainTrace s.txWf s.cfgPw s.cfgRc 0 := by
  obtain ⟨-, trace⟩ | ⟨failed, -⟩ | ⟨failed, -⟩ := ended
  · exact trace
  · cases failed
  · cases failed

/-- Settles O52: both traces are those of whole trains on waveforms of one length. -/
theorem trainShapeIsIndependentOfLevels : Obligations.TrainShapeIsIndependentOfLevels := by
  constructor
  · intro w w' pw rc fails fails' t t' length call call'
    have shape := trainTrace_shape_eq length pw rc
    rw [← transmitCall_ok call, ← transmitCall_ok call'] at shape
    exact ⟨shape, counts_eq_of_shape_eq shape⟩
  · intro s s' left left' inv inv' hb hb' hp hp' hpw hrc
    obtain ⟨on, ended⟩ := trainEnded_of_inv inv hp hb
    obtain ⟨on', ended'⟩ := trainEnded_of_inv inv' hp' hb'
    have shape := trainTrace_shape_eq (on.length.trans on'.length.symm) s.cfgPw s.cfgRc
    rw [← ended.trace_of_ok, hpw, hrc, ← ended'.trace_of_ok] at shape
    exact ⟨shape, counts_eq_of_shape_eq shape⟩

/-- Settles O56: the line answers that make the call of each way a train can end. -/
theorem trainIsTheTransmitCall : Obligations.TrainIsTheTransmitCall := by
  intro s left r inv hp hb
  obtain ⟨on, ended⟩ := trainEnded_of_inv inv hp hb
  obtain ⟨rfl, trace⟩ | ⟨rfl, trace⟩ | ⟨rfl, b, level, trace⟩ := ended
  · exact ⟨fun _ => false, trace ▸ transmitCall_of_no_failure on.pwPos on.rcPos (fun _ _ => rfl)⟩
  · exact ⟨fun _ => true, trace ▸ transmitCall_of_guard_failure on.pwPos on.rcPos rfl⟩
  · refine ⟨fun k => decide (k = 1 + s.txR * s.txWf.length + s.txI), ?_⟩
    rw [trace]
    exact transmitCall_of_level_failure on.pwPos on.repetition level
      (fun k before => decide_eq_false (by omega)) (decide_eq_true rfl)

end Sys2Proof.Machine
end

section
/-! PROOFS. Runs (spec 42, 43, 60 R99, R132, 30 R55, R58): what a run of several steps comes to while the surroundings
do not reset the block: a free duration passes, a hold lasts its count, a train is made, a response is given. -/

namespace Sys2Proof.Machine

variable {s t u : State}

/-! ### Time passing -/

/-- The state after k steps in which the strobes fall and the surroundings move, and nothing else happens. -/
def State.elapse (s : State) : Nat → State
  | 0 => s
  | k + 1 => s.clearStrobes.takePins.elapse k

/-- What the strobes and the surroundings' move leave alone, passing time leaves alone. -/
theorem State.elapse_field {α : Type} (f : State → α) (same : ∀ s : State, f s.clearStrobes.takePins = f s)
    (k : Nat) : ∀ s : State, f (s.elapse k) = f s := by
  induction k with
  | zero => exact fun _ => rfl
  | succ k ih => exact fun s => (ih _).trans (same s)

section
variable (s : State) (k : Nat)

@[simp] theorem State.elapse_cfgPw : (s.elapse k).cfgPw = s.cfgPw := State.elapse_field State.cfgPw (fun _ => rfl) k s

@[simp] theorem State.elapse_cfgRc : (s.elapse k).cfgRc = s.cfgRc := State.elapse_field State.cfgRc (fun _ => rfl) k s

@[simp] theorem State.elapse_txWf : (s.elapse k).txWf = s.txWf := State.elapse_field State.txWf (fun _ => rfl) k s

@[simp] theorem State.elapse_txR : (s.elapse k).txR = s.txR := State.elapse_field State.txR (fun _ => rfl) k s

@[simp] theorem State.elapse_txI : (s.elapse k).txI = s.txI := State.elapse_field State.txI (fun _ => rfl) k s

@[simp] theorem State.elapse_txH : (s.elapse k).txH = s.txH := State.elapse_field State.txH (fun _ => rfl) k s

@[simp] theorem State.elapse_line : (s.elapse k).line = s.line := State.elapse_field State.line (fun _ => rfl) k s

@[simp] theorem State.elapse_lineOut : (s.elapse k).lineOut = s.lineOut :=
  State.elapse_field State.lineOut (fun _ => rfl) k s

@[simp] theorem State.elapse_phase : (s.elapse k).phase = s.phase := State.elapse_field State.phase (fun _ => rfl) k s

@[simp] theorem State.elapse_trace : (s.elapse k).trace = s.trace := State.elapse_field State.trace (fun _ => rfl) k s

theorem elapse_sameConfig : sameConfig s (s.elapse k) := by
  induction k generalizing s with
  | zero => exact .refl s
  | succ k ih => exact ih s.clearStrobes.takePins

end

theorem State.NoReset.elapse (h : s.NoReset) (k : Nat) : (s.elapse k).NoReset := by
  induction k generalizing s with
  | zero => exact h
  | succ k ih => exact ih (h.act (t := s.clearStrobes) rfl rfl)

theorem State.Undisturbed.elapse (h : s.Undisturbed) (k : Nat) : (s.elapse k).Undisturbed := by
  induction k generalizing s with
  | zero => exact h
  | succ k ih => exact ih (h.act (t := s.clearStrobes) rfl rfl)

/-- The strobes fall in the first step and stay down. -/
theorem elapse_strobes (s : State) {k : Nat} (hk : 0 < k) :
    (s.elapse k).rspValid = false ∧ (s.elapse k).lineSet = false := by
  have down : ∀ (k : Nat) (s : State), s.rspValid = false → s.lineSet = false →
      (s.elapse k).rspValid = false ∧ (s.elapse k).lineSet = false := by
    intro k
    induction k with
    | zero => exact fun s valid pulse => ⟨valid, pulse⟩
    | succ k ih => exact fun s _ _ => ih s.clearStrobes.takePins rfl rfl
  obtain ⟨k, rfl⟩ : ∃ j, k = j + 1 := ⟨k - 1, by omega⟩
  exact down k s.clearStrobes.takePins rfl rfl

theorem elapse_goTo (s : State) (p : Phase) (k : Nat) : (s.goTo p).elapse k = (s.elapse k).goTo p := by
  induction k generalizing s with
  | zero => rfl
  | succ k ih => exact ih s.clearStrobes.takePins

/-! ### A free duration -/

/-- A control point that only counts down: k of its time units pass. -/
theorem run_countdown {phaseAt : Nat → Phase}
    (wait : ∀ {s : State} {n : Nat}, s.pins.rst = false → s.phase = phaseAt (n + 1) →
      step s = .next ((s.clearStrobes.goTo (phaseAt n)).takePins))
    {n : Nat} (k : Nat) (h : s.NoReset) (hp : s.phase = phaseAt (n + k)) :
    Sys2Proof.core.run k s = .next ((s.elapse k).goTo (phaseAt n)) := by
  induction k generalizing s with
  | zero => exact congrArg (fun p => Host.Outcome.next (s.goTo p)) hp
  | succ k ih =>
    have rest := ih (s := s.clearStrobes.takePins.goTo (phaseAt (n + k)))
      (h.act (t := s.clearStrobes.goTo (phaseAt (n + k))) rfl rfl) rfl
    rw [elapse_goTo] at rest
    exact run_step (wait h.rst hp) rest

theorem run_guard_wait {n : Nat} (h : s.NoReset) (hp : s.phase = .guard n) :
    Sys2Proof.core.run n s = .next ((s.elapse n).goTo (.guard 0)) :=
  run_countdown step_guard_succ n h (by rw [hp, Nat.zero_add])

theorem run_level_wait {n : Nat} (h : s.NoReset) (hp : s.phase = .level n) :
    Sys2Proof.core.run n s = .next ((s.elapse n).goTo (.level 0)) :=
  run_countdown step_level_succ n h (by rw [hp, Nat.zero_add])

theorem run_respond_wait {n k : Nat} {r : Response} (h : s.NoReset) (hp : s.phase = .respond n r) (hk : k ≤ n) :
    Sys2Proof.core.run k s = .next ((s.elapse k).goTo (.respond (n - k) r)) :=
  run_countdown (phaseAt := (.respond · r)) step_respond_succ k h (by rw [hp, Nat.sub_add_cancel hk])

/-! ### The response -/

/-- The state u in which the response r of the state s has been given. -/
structure Answered (s : State) (r : Response) (u : State) : Prop where
  valid : u.rspValid = true
  code : u.rspErr = responseCode r
  data : ∀ d, r = .ok (some d) → u.rspData = d
  busy : u.busy = false
  phase : u.phase = .idle
  line : u.line = s.line
  lineOut : u.lineOut = s.lineOut
  trace : u.trace = s.trace
  config : sameConfig s u
  tx : sameTx s u

theorem answered_giveResponse (s : State) (n : Nat) (p : Phase) (r : Response) :
    Answered s r (((s.elapse n).goTo p).clearStrobes.giveResponse r).takePins where
  valid := rfl
  code := rfl
  data := by rintro d rfl; rfl
  busy := rfl
  phase := rfl
  line := by simp
  lineOut := by simp
  trace := by simp
  config := (elapse_sameConfig s n).trans (by simp [sameConfig])
  tx := by simp [sameTx]

/-- R58: the response on its way is given when its free time is over. -/
theorem run_respond {n : Nat} {r : Response} (h : s.NoReset) (hp : s.phase = .respond n r) :
    ∃ u, Sys2Proof.core.run (n + 1) s = .next u ∧ Answered s r u := by
  have waited := run_respond_wait h hp le_rfl
  rw [Nat.sub_self] at waited
  exact ⟨_, run_trans waited (run_one (step_respond_zero (h.elapse n).rst rfl)), answered_giveResponse s n _ r⟩

/-- Settles O40: the free time passes with nothing but the strobes falling, and then the response is given. -/
theorem oneResponseComes : Obligations.OneResponseComes := by
  intro s n r h hp
  constructor
  · intro k hk
    refine ⟨_, run_respond_wait h hp hk, reqReady_eq_false_of_phase nofun, rfl, ?_, ?_, ?_⟩
    · exact s.elapse_line k
    · exact s.elapse_trace k
    · exact elapse_strobes s
  · obtain ⟨u, run, answered⟩ := run_respond h hp
    exact ⟨u, run, answered.valid, answered.code, answered.data, answered.busy, answered.phase, answered.line,
      answered.trace⟩

/-! ### A failed access -/

/-- R99: the step of an access that fails, at the guard or at a level. -/
theorem step_failed_access {b : Level} (hr : s.pins.rst = false) (failed : s.pins.lineFault = true)
    (hp : (s.phase = .guard 0 ∧ b = false) ∨ (s.phase = .level 0 ∧ s.txWf[s.txI]? = some b)) :
    ∃ point, step s =
      .next ((s.clearStrobes.setLevel b).finish (.error (.transmissionFailed point))).takePins := by
  obtain ⟨guard, rfl⟩ | ⟨level, entry⟩ := hp
  · refine ⟨.guard, (step_guard_zero hr guard).trans ?_⟩
    obtain ⟨-, e⟩ | ⟨answered, -⟩ | ⟨answered, -⟩ := guardAccess_cases s.clearStrobes
    · rw [e]
    · simp [failed] at answered
    · simp [failed] at answered
  · refine ⟨.level s.txR s.txI, (step_level_zero hr level).trans ?_⟩
    exact congrArg afterAct (levelAccess_fails (s := s.clearStrobes) entry failed)

/-- Settles O36: the failing access turns to the response, which comes when its free time is over. -/
theorem failedAccessEndsTheTrain : Obligations.FailedAccessEndsTheTrain := by
  intro s b h failed hp
  obtain ⟨point, access⟩ := step_failed_access h.rst failed hp
  have noReset := h.act (t := (s.clearStrobes.setLevel b).finish (.error (.transmissionFailed point)))
    (by simp) (by simp)
  obtain ⟨u, run, answered⟩ := run_respond noReset rfl
  refine ⟨_, u, run_step access run, answered.valid, answered.code, answered.busy, answered.phase, ?_, ?_, ?_, ?_⟩
  · exact answered.lineOut.trans (by simp)
  · exact answered.trace.trans (by simp [failed])
  · exact sameConfig.trans (by simp [sameConfig]) answered.config
  · simpa [sameTx] using answered.tx

/-! ### A hold -/

/-- The state with this many time units of its hold left. -/
def State.holdLeft (s : State) (h : Nat) : State := { s with txH := h }

theorem elapse_holdLeft (s : State) (h k : Nat) : (s.holdLeft h).elapse k = (s.elapse k).holdLeft h := by
  induction k generalizing s with
  | zero => rfl
  | succ k ih => exact ih s.clearStrobes.takePins

theorem step_hold_more (hr : s.pins.rst = false) (hp : s.phase = .hold) (more : 1 < s.txH) :
    step s = .next (s.clearStrobes.takePins.holdLeft (s.txH - 1)) := by
  rw [step_hold hr hp, holdTick_more (by exact more)]
  rfl

theorem step_hold_last (hr : s.pins.rst = false) (hp : s.phase = .hold) (last : s.txH ≤ 1) :
    step s = .next s.clearStrobes.endHold.advance.takePins := by
  rw [step_hold hr hp, holdTick_over (by exact last)]

/-- R132: while time units of a hold are left it goes on. -/
theorem run_hold {k : Nat} (h : s.NoReset) (hp : s.phase = .hold) (hk : k < s.txH) :
    Sys2Proof.core.run k s = .next ((s.elapse k).holdLeft (s.txH - k)) := by
  induction k generalizing s with
  | zero => rfl
  | succ k ih =>
    have rest := ih (s := s.clearStrobes.takePins.holdLeft (s.txH - 1))
      (h.act (t := s.clearStrobes) rfl rfl) hp (show k < s.txH - 1 by omega)
    have left : (s.clearStrobes.takePins.holdLeft (s.txH - 1)).txH - k = s.txH - (k + 1) := by
      change s.txH - 1 - k = s.txH - (k + 1)
      omega
    rw [elapse_holdLeft, left] at rest
    exact run_step (step_hold_more h.rst hp (by omega)) rest

/-- R132: a hold of h time units takes h steps, and with the last of them the position advances. -/
theorem run_hold_end (h : s.NoReset) (hp : s.phase = .hold) (hpos : 0 < s.txH) :
    Sys2Proof.core.run s.txH s = .next (s.elapse (s.txH - 1)).clearStrobes.endHold.advance.takePins := by
  have held := run_hold (k := s.txH - 1) h hp (by omega)
  have last := step_hold_last (s := (s.elapse (s.txH - 1)).holdLeft (s.txH - (s.txH - 1))) (h.elapse _).rst
    ((s.elapse_phase _).trans hp) (show s.txH - (s.txH - 1) ≤ 1 by omega)
  have all := run_trans held (run_one last)
  rwa [Nat.sub_add_cancel hpos] at all

theorem advance_txH (s : State) : s.advance.txH = s.txH := by
  obtain ⟨-, e⟩ | ⟨-, -, e⟩ | ⟨-, -, e⟩ := advance_cases s
  all_goals simp [e]

theorem advance_trace (s : State) : s.advance.trace = s.trace := by
  obtain ⟨-, e⟩ | ⟨-, -, e⟩ | ⟨-, -, e⟩ := advance_cases s
  all_goals simp [e]

theorem advance_phase_ne_hold (s : State) : s.advance.phase ≠ .hold := by
  obtain ⟨-, e⟩ | ⟨-, -, e⟩ | ⟨-, -, e⟩ := advance_cases s
  all_goals simp [e]

/-- Settles O37: the hold goes on for all its time units but the last, and then it ends. -/
theorem holdLastsItsCount : Obligations.HoldLastsItsCount := by
  intro s h hp hpos
  constructor
  · intro k hk
    refine ⟨_, run_hold h hp hk, (s.elapse_phase k).trans hp, rfl, s.elapse_line k, s.elapse_trace k, ?_⟩
    exact fun hk => (elapse_strobes s hk).2
  · obtain ⟨line, -, -, -, -, lineSet⟩ :=
      advance_line_sameOutputs (s.elapse (s.txH - 1)).clearStrobes.endHold
    refine ⟨_, run_hold_end h hp hpos, advance_phase_ne_hold _, ?_, ?_, lineSet, ?_⟩
    · exact advance_txH _
    · exact line.trans (s.elapse_line _)
    · exact (advance_trace _).trans (by simp)

end Sys2Proof.Machine
end

section
/-! PROOFS. Runs from a request to its response (spec 40 R70, 41 R80, 42 R94, R98, 43 R105, 30 R58): the answers without
an access, and the whole train when nothing disturbs it. -/

namespace Sys2Proof.Machine

variable {s t u v : State}

/-! ### One level of a train -/

/-- A train that stands before the level at its position, undisturbed; the waveform may have any length (R91). -/
structure State.OnCourse (s : State) : Prop where
  undisturbed : s.Undisturbed
  phase : ∃ n, s.phase = .level n
  pwPos : 0 < s.cfgPw
  repetition : s.txR < s.cfgRc
  index : s.txI < s.txWf.length
  trace : s.trace = trainTrace s.txWf s.cfgPw s.txR s.txI

/-- The same train with the level at its position set and held, and the position still there. -/
structure State.LevelHeld (v : State) : Prop where
  undisturbed : v.Undisturbed
  pwPos : 0 < v.cfgPw
  repetition : v.txR < v.cfgRc
  index : v.txI < v.txWf.length
  line : v.txWf[v.txI]? = some v.line
  trace : v.trace = trainTrace v.txWf v.cfgPw v.txR (v.txI + 1)

/-- The levels still to be made. -/
def State.levelsLeft (s : State) : Nat := (s.cfgRc - s.txR) * s.txWf.length - s.txI

/-- The state in which the level b has been set after n time units, its hold before it. -/
def State.levelSet (s : State) (n : Nat) (b : Level) : State :=
  (((s.elapse n).goTo (.level 0)).clearStrobes.setLevel b).beginHold.takePins

theorem levelSet_undisturbed (h : s.Undisturbed) (n : Nat) (b : Level) : (s.levelSet n b).Undisturbed :=
  (h.elapse n).act (by simp) (by simp)

/-- R94: an undisturbed access takes its time and sets its level. -/
theorem run_levelSet {n : Nat} {b : Level} (h : s.Undisturbed) (hp : s.phase = .level n)
    (level : s.txWf[s.txI]? = some b) : Sys2Proof.core.run (n + 1) s = .next (s.levelSet n b) := by
  have access : ((s.elapse n).goTo (.level 0)).clearStrobes.levelAccess =
      .next (((s.elapse n).goTo (.level 0)).clearStrobes.setLevel b).beginHold :=
    levelAccess_ok (by simpa using level) (h.elapse n).lineFault
  have made := (step_level_zero (s := (s.elapse n).goTo (.level 0)) (h.elapse n).rst rfl).trans
    (congrArg afterAct access)
  exact run_trans (run_level_wait h.noReset hp) (run_one made)

/-- R94, R132: the level at the position is set and held, and the position advances. -/
theorem run_level (on : s.OnCourse) :
    ∃ m v, Sys2Proof.core.run m s = .next v.advance.takePins ∧ v.LevelHeld ∧ sameConfig s v ∧ v.txWf = s.txWf ∧
      v.levelsLeft = s.levelsLeft := by
  obtain ⟨undisturbed, ⟨n, hp⟩, pwPos, repetition, index, trace⟩ := on
  obtain ⟨b, level⟩ : ∃ b, s.txWf[s.txI]? = some b := ⟨_, List.getElem?_eq_getElem index⟩
  have quiet := levelSet_undisturbed undisturbed n b
  have answered := (undisturbed.elapse n).lineFault
  have held := run_hold_end quiet.noReset rfl (by simpa [State.levelSet] using pwPos)
  refine ⟨_, _, run_trans (run_levelSet undisturbed hp level) held, ?held, ?config, ?wf, ?left⟩
  case held => exact {
    undisturbed := quiet.elapse _
    pwPos := by simpa [State.levelSet] using pwPos
    repetition := by simpa [State.levelSet] using repetition
    index := by simpa [State.levelSet] using index
    line := by simpa [State.levelSet, answered] using level
    trace := by simp [State.levelSet, answered, trace, ← trainTrace_snoc _ _ level] }
  case config =>
    have made : sameConfig (s.elapse n) (s.levelSet n b) := by simp [State.levelSet, sameConfig]
    exact ((elapse_sameConfig s n).trans made).trans (elapse_sameConfig _ _)
  case wf => simp [State.levelSet]
  case left => simp [State.levelSet, State.levelsLeft]

/-! ### The rest of a train -/

/-- The state u in which the train on the waveform of s has been made and awaits its response. -/
structure TrainMade (s u : State) : Prop where
  noReset : u.NoReset
  phase : ∃ n, u.phase = .respond n (.ok none)
  config : sameConfig s u
  trace : u.trace = trainTrace s.txWf s.cfgPw s.cfgRc 0
  line : u.line = s.txWf.getLast?.getD false

/-- What a train makes depends on the waveform and the configuration alone. -/
theorem TrainMade.congr (made : TrainMade t u) (config : sameConfig s t) (wf : t.txWf = s.txWf) : TrainMade s u where
  noReset := made.noReset
  phase := made.phase
  config := config.trans made.config
  trace := by obtain ⟨-, -, -, pw, rc, -⟩ := config; rw [made.trace, wf, pw, rc]
  line := by rw [made.line, wf]

@[simp] theorem advance_txWf (v : State) : v.advance.txWf = v.txWf := by
  obtain ⟨-, e⟩ | ⟨-, -, e⟩ | ⟨-, -, e⟩ := advance_cases v
  all_goals simp [e]

theorem onCourse_moveTo {r i : Nat} (held : v.LevelHeld) (hr : r < v.cfgRc) (hi : i < v.txWf.length)
    (trace : v.trace = trainTrace v.txWf v.cfgPw r i) : (v.moveTo r i).toLevel.takePins.OnCourse where
  undisturbed := held.undisturbed.act rfl rfl
  phase := ⟨_, rfl⟩
  pwPos := held.pwPos
  repetition := hr
  index := hi
  trace := trace

theorem levelsLeft_moveTo (v : State) (r i : Nat) :
    (v.moveTo r i).toLevel.takePins.levelsLeft = (v.cfgRc - r) * v.txWf.length - i := rfl

/-- The levels left are those of the present repetition and those of the repetitions after it. -/
theorem State.LevelHeld.levelsLeft_eq (held : v.LevelHeld) :
    v.levelsLeft = (v.cfgRc - (v.txR + 1)) * v.txWf.length + (v.txWf.length - v.txI) := by
  have index := held.index
  have repetition := held.repetition
  rw [State.levelsLeft, show v.cfgRc - v.txR = v.cfgRc - (v.txR + 1) + 1 by omega, Nat.succ_mul]
  omega

/-- R96: after the last level of a repetition the train stands before the first of the next. -/
theorem State.LevelHeld.trace_of_atEnd (held : v.LevelHeld) (atEnd : v.txWf.length ≤ v.txI + 1) :
    v.trace = trainTrace v.txWf v.cfgPw (v.txR + 1) 0 := by
  have index := held.index
  rw [held.trace, ← trainTrace_repetition, show v.txI + 1 = v.txWf.length by omega]

/-- R22, R96, R98: the train stands before the next level with fewer levels left, or it is over. -/
theorem onCourse_advance (held : v.LevelHeld) :
    (v.advance.takePins.OnCourse ∧ v.advance.takePins.levelsLeft < v.levelsLeft) ∨
      TrainMade v v.advance.takePins := by
  have index := held.index
  have repetition := held.repetition
  rw [held.levelsLeft_eq]
  obtain ⟨more, e⟩ | ⟨atEnd, more, e⟩ | ⟨atEnd, final, e⟩ := advance_cases v
  all_goals rw [e]
  · refine .inl ⟨onCourse_moveTo held repetition more held.trace, ?_⟩
    have left := held.levelsLeft_eq
    rw [levelsLeft_moveTo]
    rw [State.levelsLeft] at left
    omega
  · refine .inl ⟨onCourse_moveTo held more (by omega) (held.trace_of_atEnd atEnd), ?_⟩
    rw [levelsLeft_moveTo]
    omega
  · have atLast : v.txWf.length - 1 = v.txI := by omega
    have trace := held.trace_of_atEnd atEnd
    rw [show v.txR + 1 = v.cfgRc by omega] at trace
    exact .inr {
      noReset := (held.undisturbed.act rfl rfl).noReset
      phase := ⟨_, rfl⟩
      config := by simp [sameConfig]
      trace := trace
      line := by simp [List.getLast?_eq_getElem?, atLast, held.line] }

/-- R94, R98: an undisturbed train is made to its end, by induction on the levels left. -/
theorem run_onCourse (on : s.OnCourse) : ∃ m u, Sys2Proof.core.run m s = .next u ∧ TrainMade s u := by
  induction left : s.levelsLeft using Nat.strong_induction_on generalizing s with
  | _ left ih =>
    obtain ⟨m, v, run, held, config, wf, same⟩ := run_level on
    obtain ⟨on', fewer⟩ | made := onCourse_advance held
    · obtain ⟨m', u, run', made⟩ := ih _ (by omega) on' rfl
      have config' := (config.trans (advance_sameConfig v)).trans (takePins_sameConfig _)
      exact ⟨_, u, run_trans run run', made.congr config' (by simp [wf])⟩
    · exact ⟨m, _, run, made.congr config wf⟩

/-! ### The whole train -/

/-- A train that has been accepted, undisturbed, before its idle guard (R93, R95). -/
structure State.Accepted (s : State) : Prop where
  undisturbed : s.Undisturbed
  phase : ∃ n, s.phase = .guard n
  contract : s.InContract
  repetition : s.txR = 0
  index : s.txI = 0
  trace : s.trace = []

/-- R95: the guard sets the line LOW; a waveform of no levels is over then. -/
theorem accepted_guardAccess (accepted : s.Accepted) :
    s.guardAccess.takePins.OnCourse ∨ TrainMade s s.guardAccess.takePins := by
  obtain ⟨undisturbed, -, ⟨hpw, hrc⟩, repetition, index, trace⟩ := accepted
  have answered := undisturbed.lineFault
  obtain ⟨fault, -⟩ | ⟨-, none, e⟩ | ⟨-, levels, e⟩ := guardAccess_cases s
  · simp [answered] at fault
  · right
    rw [e]
    exact {
      noReset := (undisturbed.act (by simp) (by simp)).noReset
      phase := ⟨_, rfl⟩
      config := by simp [sameConfig]
      trace := by simp [answered, trace, none, trainTrace, levelsBefore]
      line := by simp [answered, none] }
  · left
    rw [e]
    exact {
      undisturbed := undisturbed.act (by simp) (by simp)
      phase := ⟨_, rfl⟩
      pwPos := by simpa using hpw
      repetition := by simpa [repetition] using hrc
      index := by simpa [index] using List.length_pos_iff.mpr levels
      trace := by simp [answered, trace, repetition, index, trainTrace, levelsBefore] }

@[simp] theorem guardAccess_txWf (s : State) : s.guardAccess.txWf = s.txWf := by
  obtain ⟨-, e⟩ | ⟨-, -, e⟩ | ⟨-, -, e⟩ := guardAccess_cases s
  all_goals simp [e]

theorem run_accepted (accepted : s.Accepted) : ∃ m u, Sys2Proof.core.run m s = .next u ∧ TrainMade s u := by
  obtain ⟨n, hp⟩ := accepted.phase
  have waited := run_guard_wait accepted.undisturbed.noReset hp
  have quiet := accepted.undisturbed.elapse n
  have access := run_one (step_guard_zero (s := (s.elapse n).goTo (.guard 0)) quiet.rst rfl)
  have config : sameConfig s ((s.elapse n).goTo (.guard 0)).clearStrobes := 
    (elapse_sameConfig s n).trans (by simp [sameConfig])
  have ready : ((s.elapse n).goTo (.guard 0)).clearStrobes.Accepted := {
      undisturbed := quiet
      phase := ⟨0, rfl⟩
      contract := by simpa [State.InContract] using accepted.contract
      repetition := by simpa using accepted.repetition
      index := by simpa using accepted.index
      trace := by simpa using accepted.trace }
  obtain on | made := accepted_guardAccess ready
  · obtain ⟨m, u, run, made⟩ := run_onCourse on
    have config' := (config.trans (guardAccess_sameConfig _)).trans (takePins_sameConfig _)
    exact ⟨_, u, run_trans waited (run_trans access run), made.congr config' (by simp)⟩
  · exact ⟨_, _, run_trans waited access, made.congr config (by simp)⟩

/-- The state u in which the train on the waveform of s has been answered with success (R98). -/
structure Succeeded (s u : State) : Prop where
  valid : u.rspValid = true
  code : u.rspErr = 0#3
  busy : u.busy = false
  phase : u.phase = .idle
  trace : u.trace = trainTrace s.txWf s.cfgPw s.cfgRc 0
  line : u.line = s.txWf.getLast?.getD false
  config : sameConfig s u

theorem run_succeeds (accepted : s.Accepted) : ∃ m u, Sys2Proof.core.run m s = .next u ∧ Succeeded s u := by
  obtain ⟨m, v, run, made⟩ := run_accepted accepted
  obtain ⟨n, hp⟩ := made.phase
  obtain ⟨u, run', answered⟩ := run_respond made.noReset hp
  exact ⟨_, u, run_trans run run', {
    valid := answered.valid
    code := answered.code
    busy := answered.busy
    phase := answered.phase
    trace := answered.trace.trans made.trace
    line := answered.line.trans made.line
    config := made.config.trans answered.config }⟩

/-- R93: the start of a train on an undisturbed block inside the contract. -/
theorem accepted_beginTrain (h : s.Undisturbed) (contract : s.InContract) (w : Waveform) :
    (s.beginTrain w).Accepted where
  undisturbed := h
  phase := ⟨_, rfl⟩
  contract := contract
  repetition := rfl
  index := rfl
  trace := rfl

theorem State.Accepted.takePins (accepted : s.Accepted) : s.takePins.Accepted where
  undisturbed := accepted.undisturbed.takePins
  phase := accepted.phase
  contract := accepted.contract
  repetition := accepted.repetition
  index := accepted.index
  trace := accepted.trace

/-- Settles O57: TRANSMIT is accepted, and the accepted train succeeds. -/
theorem transmitRunsToSuccess : Obligations.TransmitRunsToSuccess := by
  intro s w h hfatal contract
  obtain ⟨n, u, run, success⟩ := run_succeeds (accepted_beginTrain h contract w)
  exact ⟨_, n, u, (exec_transmit hfatal w).trans (startTrain_eq_next contract w), run, success.valid, success.code,
    success.busy, success.phase, success.trace, success.line, success.config⟩

/-- R85: a built codeword ends LOW. -/
theorem getLast?_expandLevels_buildCodeword {key : List Bool} (hkey : key.length = 5) (device : Nat)
    (command : Command) : (expandLevels (buildCodeword key device command)).getLast? = some false := by
  rw [List.getLast?_eq_getElem?, expandLevels_length, buildCodeword_length]
  exact expandLevels_buildCodeword_low hkey device command (by decide) (by decide)

/-- Settles O58: the presented ISSUE is accepted, and the train of its codeword succeeds. -/
theorem issueRequestRunsToSuccess : Obligations.IssueRequestRunsToSuccess := by
  intro s token command device h hp hb hfatal contract hkey hv decoded htoken
  have executed : exec (.issue token device) s.clearStrobes =
      .next (s.clearStrobes.beginTrain (expandLevels (buildCodeword s.cfgKey device command))) :=
    (exec_issue (s := s.clearStrobes) hfatal (tokenCommand_eq_some_iff.mpr htoken) hkey device).trans
      (startTrain_eq_next (s := s.clearStrobes) contract _)
  have accept := step_accept h.rst hp hb hv (decoded ▸ executed)
  obtain ⟨n, u, run, success⟩ := run_succeeds (accepted_beginTrain (s := s.clearStrobes) h contract
    (expandLevels (buildCodeword s.cfgKey device command))).takePins
  have low : u.line = false := by
    simpa [getLast?_expandLevels_buildCodeword hkey] using success.line
  exact ⟨_, _, u, encodeCall_eq_ok hkey device command, run_step accept run, success.valid, success.code,
    success.busy, success.phase, success.trace, low, success.config⟩

/-! ### The answers without an access -/

/-- From a presented request that exec answers with the result d, the block comes to that response. -/
theorem run_result {d : Bus} (h : s.NoReset) (hp : s.phase = .idle) (hb : s.busy = false)
    (hv : s.pins.reqValid = true)
    (executed : exec (decodeRequest s.pins.reqWord s.pins.reqOpd) s.clearStrobes =
      .next (s.clearStrobes.answer (.ok (some d)))) :
    ∃ n u, Sys2Proof.core.run n s = .next u ∧ u.rspValid = true ∧ u.rspErr = 0#3 ∧ u.rspData = d ∧ u.busy = false ∧
      u.trace = [] ∧ u.line = s.line ∧ sameConfig s u ∧ sameTx s u := by
  have noReset := h.act (t := s.clearStrobes.answer (.ok (some d))) rfl rfl
  obtain ⟨u, run, answered⟩ := run_respond noReset rfl
  exact ⟨_, u, run_step (step_accept h.rst hp hb hv executed) run, answered.valid, answered.code,
    answered.data d rfl, answered.busy, answered.trace, answered.line, answered.config, answered.tx⟩

/-- Settles O59: ENCODE is answered with the packed codeword of its call. -/
theorem encodeRequestIsAnswered : Obligations.EncodeRequestIsAnswered := by
  intro s key device command h hp hb hfatal hv decoded
  have hkey : key.length = 5 := by
    have wf := decodeRequest_wellFormed s.pins.reqWord s.pins.reqOpd
    rw [decoded] at wf
    exact ((encode_wellFormed_iff key device command).mp wf).1
  have executed := exec_encode (s := s.clearStrobes) hfatal hkey device command
  obtain ⟨n, u, run, answer⟩ := run_result h hp hb hv (decoded ▸ executed)
  exact ⟨_, n, u, encodeCall_eq_ok hkey device command, run, answer⟩

/-- R36: EXPAND takes its codeword from the operand bus. -/
theorem packCodeword_of_decodeRequest {word : RequestWord} {opd : Bus} {cw : Codeword}
    (h : decodeRequest word opd = .expand cw) : packCodeword cw = opd := by
  unfold decodeRequest at h
  split at h <;> cases h
  exact packCodeword_unpackCodeword opd

/-- Settles O60: EXPAND is answered with the packed codeword, and that is the operand. -/
theorem expandRequestIsAnswered : Obligations.ExpandRequestIsAnswered := by
  intro s cw h hp hb hfatal hv decoded
  have executed := exec_expand (s := s.clearStrobes) hfatal (length_of_decodeRequest_eq_expand decoded)
  rw [packCodeword_of_decodeRequest decoded, ← decoded] at executed
  exact run_result h hp hb hv executed

end Sys2Proof.Machine
end
